-- ==== Sys2Proof/Word.lean ====
section
/-! DEFINITION. The words of the block and the ten-slot record they come in. Nothing here depends on what an
instruction does. -/

namespace Sys2Proof

/-- An 8-bit value: a preamble, an `svid`, a leap-second count (R2, R3, R5). -/
abbrev Byte := BitVec 8

/-- A raw word: the 32-bit container of R80. -/
abbrev RawWord := BitVec 32

/-- A normalized word: the 24-bit payload of R81. -/
abbrev NormWord := BitVec 24

/-- Ten words in subframe order, slot 0 first (R5, R60, R61). -/
structure Ten (α : Type) where
  w0 : α
  w1 : α
  w2 : α
  w3 : α
  w4 : α
  w5 : α
  w6 : α
  w7 : α
  w8 : α
  w9 : α
  deriving DecidableEq, Repr

/-- The same value in every slot. -/
def Ten.fill {α : Type} (a : α) : Ten α := ⟨a, a, a, a, a, a, a, a, a, a⟩

/-- A function applied slot by slot. -/
def Ten.map {α β : Type} (f : α → β) (t : Ten α) : Ten β :=
  ⟨f t.w0, f t.w1, f t.w2, f t.w3, f t.w4, f t.w5, f t.w6, f t.w7, f t.w8, f t.w9⟩

/-- Slot `i`, by number. -/
def Ten.get {α : Type} (t : Ten α) (i : Fin 10) : α :=
  match i.val with
  | 0 => t.w0
  | 1 => t.w1
  | 2 => t.w2
  | 3 => t.w3
  | 4 => t.w4
  | 5 => t.w5
  | 6 => t.w6
  | 7 => t.w7
  | 8 => t.w8
  | _ => t.w9

end Sys2Proof
end

