-- ==== Sys2Proof/Syntax.lean ====
section
/-! DEFINITION. The request of the request port and the instructions of the block: one constructor for each row of
spec/opcode_table.json. -/

namespace Sys2Proof

/-- A command as it is presented at the request port: a 16-bit header and ten 32-bit payload slots (R86). -/
structure Request where
  cmd     : BitVec 16
  payload : Ten RawWord
  deriving DecidableEq, Repr

/-- The rows of spec/opcode_table.json: the five rows of the command header (R87, R100), then the ten rows of the
Interpreter's dispatch key (R99). An operand is a field of the row's encoding that its fixed bits leave free. -/
inductive Instr where
  /-- DECODE_RAW: normalize a raw subframe, then interpret it (R140). -/
  | decodeRaw (svid : Byte) (payload : Ten RawWord)
  /-- DECODE_NORM: interpret an already-normalized subframe (R170). -/
  | decodeNorm (svid : Byte) (payload : Ten RawWord)
  /-- READ_CTX: the context snapshot; `svid` is carried by the header and ignored (R290). -/
  | readCtx (svid : Byte)
  /-- RESERVED_OP3: command code 3 (R291). -/
  | reservedOp3 (svid : Byte) (rsv : BitVec 6)
  /-- RESERVED_RSV: any command code with a nonzero reserved field (R291). -/
  | reservedRsv (svid : Byte) (rsv : BitVec 6) (op : BitVec 2)
  /-- SF1_CLOCK: sfid 1, any page_id (R200). -/
  | sf1Clock (page : BitVec 6)
  /-- SF2_EPHEMERIS1: sfid 2, any page_id (R202). -/
  | sf2Ephemeris1 (page : BitVec 6)
  /-- SF3_EPHEMERIS2: sfid 3, any page_id (R203). -/
  | sf3Ephemeris2 (page : BitVec 6)
  /-- SF4_PAGE56_LEAP: sfid 4, page_id 56 (R241). -/
  | sf4Page56Leap
  /-- SF4_PAGE_NOP: sfid 4, page_id other than 56 (R245). -/
  | sf4PageNop (page : BitVec 6)
  /-- SF5_ALMANAC: sfid 5, page_id 1 to 24 (R271). -/
  | sf5Almanac (page : BitVec 6)
  /-- SF5_PAGE_NOP: sfid 5, page_id 0 or 25 to 63 (R272). -/
  | sf5PageNop (page : BitVec 6)
  /-- REJECT_SFID0: sfid 0 (R174). -/
  | rejectSfid0 (page : BitVec 6)
  /-- REJECT_SFID6: sfid 6 (R174). -/
  | rejectSfid6 (page : BitVec 6)
  /-- REJECT_SFID7: sfid 7 (R174). -/
  | rejectSfid7 (page : BitVec 6)
  deriving DecidableEq, Repr

/-- The words an instruction is read from: a request at the request port (R86) or the Interpreter's 9-bit dispatch
key (R99). -/
inductive Encoded where
  | command (r : Request)
  | key (k : BitVec 9)
  deriving DecidableEq, Repr

end Sys2Proof
end

