-- ==== Sys2Proof/WellFormed.lean ====
section
/-! DEFINITION. Which instruction terms stand for words of the opcode table: the "condition" of each row. -/

namespace Sys2Proof

/-- The conditions of the table's rows (R99, R100): a RESERVED_RSV has a nonzero `rsv` and takes precedence, so a
RESERVED_OP3 has a zero one, SF4_PAGE_NOP is any page but 56, SF5_ALMANAC is pages 1 to 24 and SF5_PAGE_NOP the
others. -/
def Instr.wf : Instr → Bool
  | .decodeRaw _ _ => true
  | .decodeNorm _ _ => true
  | .readCtx _ => true
  | .reservedOp3 _ rsv => rsv == 0
  | .reservedRsv _ rsv _ => rsv != 0
  | .sf1Clock _ => true
  | .sf2Ephemeris1 _ => true
  | .sf3Ephemeris2 _ => true
  | .sf4Page56Leap => true
  | .sf4PageNop page => page != 56
  | .sf5Almanac page => decide (1 ≤ page) && decide (page ≤ 24)
  | .sf5PageNop page => page == 0 || decide (25 ≤ page)
  | .rejectSfid0 _ => true
  | .rejectSfid6 _ => true
  | .rejectSfid7 _ => true

end Sys2Proof
end

