-- ==== Sys2Proof/Decode.lean ====
section
/-! DEFINITION. Reading an instruction from its words and writing it back: the command header of R86 and R87, the dispatch
key of R99, and their encoder. Every word of either format has a meaning, so no word is rejected. -/

namespace Sys2Proof

/-- `len` bits of `v` from bit `lo` up, bit 0 the least significant: the spec's `v[lo + len - 1 : lo]` (00_scope.md
section 5). -/
abbrev slice {n : Nat} (v : BitVec n) (lo len : Nat) : BitVec len := v.extractLsb' lo len

/-- The instruction of a request. A nonzero reserved field takes precedence over every command code (R87, R100, R291). -/
def decodeCommand (r : Request) : Instr :=
  let op : BitVec 2 := slice r.cmd 0 2
  let rsv : BitVec 6 := slice r.cmd 2 6
  let svid : Byte := slice r.cmd 8 8
  if rsv ≠ 0 then .reservedRsv svid rsv op
  else if op = 0 then .decodeRaw svid r.payload
  else if op = 1 then .decodeNorm svid r.payload
  else if op = 2 then .readCtx svid
  else .reservedOp3 svid rsv

/-- The row of the dispatch map for a key `sfid ++ page_id`, the first matching row in the order of priority (R99). -/
def decodeKey (k : BitVec 9) : Instr :=
  let sfid : BitVec 3 := slice k 6 3
  let page : BitVec 6 := slice k 0 6
  if sfid = 1 then .sf1Clock page
  else if sfid = 2 then .sf2Ephemeris1 page
  else if sfid = 3 then .sf3Ephemeris2 page
  else if sfid = 4 ∧ page = 56 then .sf4Page56Leap
  else if sfid = 4 then .sf4PageNop page
  else if sfid = 5 ∧ 1 ≤ page ∧ page ≤ 24 then .sf5Almanac page
  else if sfid = 5 then .sf5PageNop page
  else if sfid = 0 then .rejectSfid0 page
  else if sfid = 6 then .rejectSfid6 page
  else .rejectSfid7 page

/-- The instruction of either format's words. -/
def decode : Encoded → Instr
  | .command r => decodeCommand r
  | .key k => decodeKey k

/-- A command header from its fields: svid in 15:8, rsv in 7:2, op in 1:0 (R86). -/
def commandHeader (svid : Byte) (rsv : BitVec 6) (op : BitVec 2) : BitVec 16 := svid ++ rsv ++ op

/-- A dispatch key from its fields (R99). -/
def dispatchKeyOf (sfid : BitVec 3) (page : BitVec 6) : BitVec 9 := sfid ++ page

/-- The words of an instruction (R86, R87, R99, R101). A command that reads no payload is written with slots of zeros. -/
def encode : Instr → Encoded
  | .decodeRaw svid payload => .command ⟨commandHeader svid 0 0, payload⟩
  | .decodeNorm svid payload => .command ⟨commandHeader svid 0 1, payload⟩
  | .readCtx svid => .command ⟨commandHeader svid 0 2, Ten.fill 0⟩
  | .reservedOp3 svid rsv => .command ⟨commandHeader svid rsv 3, Ten.fill 0⟩
  | .reservedRsv svid rsv op => .command ⟨commandHeader svid rsv op, Ten.fill 0⟩
  | .sf1Clock page => .key (dispatchKeyOf 1 page)
  | .sf2Ephemeris1 page => .key (dispatchKeyOf 2 page)
  | .sf3Ephemeris2 page => .key (dispatchKeyOf 3 page)
  | .sf4Page56Leap => .key (dispatchKeyOf 4 56)
  | .sf4PageNop page => .key (dispatchKeyOf 4 page)
  | .sf5Almanac page => .key (dispatchKeyOf 5 page)
  | .sf5PageNop page => .key (dispatchKeyOf 5 page)
  | .rejectSfid0 page => .key (dispatchKeyOf 0 page)
  | .rejectSfid6 page => .key (dispatchKeyOf 6 page)
  | .rejectSfid7 page => .key (dispatchKeyOf 7 page)

/-- Whether words have the fixed bits `mtch` under `mask`, in the format and at the place where the table's row puts
them. -/
def Encoded.matchesRow (e : Encoded) (isCommand : Bool) (mtch mask : Nat) : Bool :=
  match e with
  | .command r => isCommand && r.cmd &&& BitVec.ofNat 16 mask == BitVec.ofNat 16 mtch
  | .key k => !isCommand && k &&& BitVec.ofNat 9 mask == BitVec.ofNat 9 mtch

/-- The fixed bits of each row as spec/opcode_table.json prints them: whether its format is CMD, its "match", its
"mask". -/
def Instr.tableRow : Instr → Bool × Nat × Nat
  | .decodeRaw _ _ => (true, 0x0000, 0x00FF)
  | .decodeNorm _ _ => (true, 0x0001, 0x00FF)
  | .readCtx _ => (true, 0x0002, 0x00FF)
  | .reservedOp3 _ _ => (true, 0x0003, 0x0003)
  | .reservedRsv _ _ _ => (true, 0x0000, 0x0000)
  | .sf1Clock _ => (false, 0x040, 0x1C0)
  | .sf2Ephemeris1 _ => (false, 0x080, 0x1C0)
  | .sf3Ephemeris2 _ => (false, 0x0C0, 0x1C0)
  | .sf4Page56Leap => (false, 0x138, 0x1FF)
  | .sf4PageNop _ => (false, 0x100, 0x1C0)
  | .sf5Almanac _ => (false, 0x140, 0x1C0)
  | .sf5PageNop _ => (false, 0x140, 0x1C0)
  | .rejectSfid0 _ => (false, 0x000, 0x1C0)
  | .rejectSfid6 _ => (false, 0x180, 0x1C0)
  | .rejectSfid7 _ => (false, 0x1C0, 0x1C0)

/-- A request read from one number: the header in bits 15..0, payload slot `i` in the 32 bits from bit `16 + 32 i`. -/
def requestOfNat (w : Nat) : Request where
  cmd := BitVec.ofNat 16 w
  payload :=
    let slot := fun i => BitVec.ofNat 32 (w >>> (16 + 32 * i))
    ⟨slot 0, slot 1, slot 2, slot 3, slot 4, slot 5, slot 6, slot 7, slot 8, slot 9⟩

/-- Which format a number of `nbits` bits is read in, for the host's two questions about one opcode-table row (log
entry 9: the number does not say its row's format, and a DISPATCH row of 9 bits is 16 in whole bytes). A number below 2^9
whose sfid field is nonzero, or of fewer than 16 bits, is a dispatch key; any other is a command. -/
def tableWord (nbits w : Nat) : Encoded :=
  if nbits < 16 ∨ (64 ≤ w ∧ w < 512) then .key (BitVec.ofNat 9 w) else .command (requestOfNat w)

/-- The instruction of a number that the opcode table's rows number (DESIGN CHOICE, log entry 9). -/
def decodeTableWord (nbits w : Nat) : Option Instr := some (decode (tableWord nbits w))

end Sys2Proof
end

