-- ==== Sys2Proof/Machine/Context.lean ====
section
/-! DEFINITION. The registers of the block: the NavigationContext (R30 to R34), the command serializer (R39), the header
registers of the subframe being decoded (R36), with their values right after reset (R40), and what the request port
holds. -/

namespace Sys2Proof.Machine

/-- The NavigationContext: the registers that persist between commands (R30 to R34). `gpsWeek` holds no meaningful value
while `weekKnown` is false (R31). -/
structure Context where
  gpsWeek         : BitVec 10
  weekKnown       : Bool
  leapSeconds     : BitVec 8
  leapSecondValid : Bool
  deriving DecidableEq, Repr

/-- Whether a command is in progress (R39). A command runs within one step (R63), so `running` stands only in a state
whose word buffers and header registers are loaded and whose dispatch is the next thing to run. -/
inductive Serializer where
  | idle
  | running
  deriving DecidableEq, Repr

/-- The header fields of the subframe being decoded (R36, R171, R173). -/
structure HeaderRegs where
  svid      : BitVec 8
  tow       : BitVec 17
  sfid      : BitVec 3
  alert     : BitVec 1
  antispoof : BitVec 1
  pageId    : BitVec 6
  dataId    : BitVec 2
  deriving DecidableEq, Repr

/-- What the outside presents to the block: a command (R86) or a reset, which takes effect between commands (R341). -/
inductive PortEvent where
  | command (r : Request)
  | reset
  deriving DecidableEq, Repr

/-- The context right after reset (R40). The week register's 0 is the model's own value (DESIGN CHOICE, log entry 5). -/
def contextAtReset (baseline : BitVec 8) : Context where
  gpsWeek := 0
  weekKnown := false
  leapSeconds := baseline
  leapSecondValid := false

/-- The header registers outside a command (R36, R40; DESIGN CHOICE, log entry 6). -/
def clearedHeader : HeaderRegs := ⟨0, 0, 0, 0, 0, 0, 0⟩

end Sys2Proof.Machine
end

