-- ==== Sys2Proof/Config.lean ====
section
/-! DEFINITION. What the block takes from outside its rules: the three build-time parameters of R1, and the two values the
spec leaves free. None has a body, so nothing can be proved of a particular value. -/

namespace Sys2Proof

/-- The two levels at which a decode may emit reports beyond the required ones (R314). -/
inductive LowLevel where
  | io
  | prog
  deriving DecidableEq, Repr, Inhabited

/-- A report beyond the required ones: its level and its message, which nothing specifies (R312, R314). -/
structure ExtraReport where
  level : LowLevel
  text  : String
  deriving DecidableEq, Repr, Inhabited

/-- The extra reports of one decode command, before and after the required one: R314 admits any number of them in any
position of the command's report sequence, and a command has at most one required report (R308, R313). -/
structure ExtraReports where
  before : List ExtraReport
  after  : List ExtraReport
  deriving DecidableEq, Repr, Inhabited

/-- What every rule of the model reads from outside the state: the three parameters of R1 and the two free values. The
rules are written for every `Params`, so they can be run on the spec's test configuration; the machine runs them on
`Config.build`. -/
structure Params where
  /-- `SENTINEL`, 8 bits (R2). -/
  sentinel : Byte
  /-- `BASELINE`, 8 bits unsigned (R3). -/
  baseline : Byte
  /-- `Parity`, total and pure, on the whole corrected 32-bit container (R4). -/
  parity : RawWord → BitVec 6
  /-- The extra reports of the n-th decode (R314). -/
  extraReports : Nat → ExtraReports
  /-- The n-th choice among the outstanding entries of the request port (R65). -/
  order : Nat → Nat

/-- `SENTINEL`: OPEN (R2, D7; log entry 1). -/
opaque Config.sentinel : Byte

/-- `BASELINE`: OPEN (R3, D8; log entry 1). -/
opaque Config.baseline : Byte

/-- `Parity`: OPEN (R4, D9; log entry 1). -/
opaque Config.parity : RawWord → BitVec 6

/-- Free value: which extra PROG and IO reports a decode emits (R314, I10; DESIGN CHOICE, log entry 8). -/
opaque Config.extraReports : Nat → ExtraReports

/-- Free value: which outstanding command runs next (R65, I12; DESIGN CHOICE, log entry 7). -/
opaque Config.order : Nat → Nat

/-- The block as built (R1, R342). -/
def Config.build : Params where
  sentinel := Config.sentinel
  baseline := Config.baseline
  parity := Config.parity
  extraReports := Config.extraReports
  order := Config.order

end Sys2Proof
end

