-- ==== Sys2Proof/Machine/Report.lean ====
section
/-! DEFINITION. The events of the report port (R312 to R314): a level, a kind and its arguments. The message text of a
required report is not specified and not modelled (R312, DESIGN CHOICE, log entry 10). -/

namespace Sys2Proof.Machine

/-- The severities of the report sink (R312). -/
inductive Level where
  | io
  | prog
  | warn
  | error
  | inf
  deriving DecidableEq, Repr

/-- The conditions that require a report, with the arguments of R313. -/
inductive Condition where
  | preambleMismatch (svid preamble : BitVec 8)
  | parityFailure (svid : BitVec 8) (index : BitVec 4) (expected actual : BitVec 6)
  | badPreamble (svid preamble : BitVec 8)
  | unknownSubframeID (svid : BitVec 8) (sfid : BitVec 3)
  | pageNotDecoded (svid : BitVec 8) (sfid : BitVec 3) (pageId : BitVec 6)
  | invalidLeapSeconds (svid leap baseline : BitVec 8)
  | leapPending (svid leap lsf wnlsf dn : BitVec 8)
  deriving DecidableEq, Repr

/-- One event of the report port: a required one (R313) or one of the extra ones a decode may emit (R314). -/
inductive Report where
  | required (c : Condition)
  | extra (r : ExtraReport)
  deriving DecidableEq, Repr

/-- The level of each required report (R313). -/
def Condition.level : Condition → Level
  | .preambleMismatch _ _ => .io
  | .parityFailure _ _ _ _ => .io
  | .badPreamble _ _ => .warn
  | .unknownSubframeID _ _ => .prog
  | .pageNotDecoded _ _ _ => .prog
  | .invalidLeapSeconds _ _ _ => .error
  | .leapPending _ _ _ _ _ => .inf

/-- The level of an extra report is PROG or IO (R314). -/
def lowLevelOf : LowLevel → Level
  | .io => .io
  | .prog => .prog

/-- The level of an event (R312). -/
def Report.level : Report → Level
  | .required c => c.level
  | .extra r => lowLevelOf r.level

end Sys2Proof.Machine
end

