-- ==== Sys2Proof/Machine/Response.lean ====
section
/-! DEFINITION. The response of a command (R89 to R91): a typed record, no bit packing (D22). Every field is the
zero-extended bit pattern of its width (R7). -/

namespace Sys2Proof.Machine

/-- The header of every OK response of a decode command (R175). -/
structure ResultHeader where
  svid      : BitVec 8
  tow       : BitVec 17
  sfid      : BitVec 3
  alert     : BitVec 1
  antispoof : BitVec 1
  deriving DecidableEq, Repr

/-- Subframe 1 (R91, R200). -/
structure Clock where
  l2Code   : BitVec 2
  ura      : BitVec 4
  svHealth : BitVec 6
  iodc     : BitVec 10
  l2p      : BitVec 1
  tgd      : BitVec 8
  toc      : BitVec 16
  af2      : BitVec 8
  af1      : BitVec 16
  af0      : BitVec 22
  deriving DecidableEq, Repr

/-- Subframe 2 (R91, R202). -/
structure EphemerisPart1 where
  iode   : BitVec 8
  crs    : BitVec 16
  deltaN : BitVec 16
  m0     : BitVec 32
  cuc    : BitVec 16
  e      : BitVec 32
  cus    : BitVec 16
  sqrtA  : BitVec 32
  toe    : BitVec 16
  fit    : BitVec 1
  aodo   : BitVec 5
  deriving DecidableEq, Repr

/-- Subframe 3 (R91, R203). -/
structure EphemerisPart2 where
  cic      : BitVec 16
  omega0   : BitVec 32
  cis      : BitVec 16
  i0       : BitVec 32
  crc      : BitVec 16
  omega    : BitVec 32
  omegadot : BitVec 24
  iode     : BitVec 8
  idot     : BitVec 14
  deriving DecidableEq, Repr

/-- The nested variant of a subframe-4 page (R91, R241, R245). -/
inductive PageVariant where
  | notYetDecoded
  | leapSecond (leap lsf wnlsf dn : BitVec 8) (clamped : Bool)
  deriving DecidableEq, Repr

/-- The fields of a per-SV almanac page (R91, R271). -/
structure PerSV where
  e        : BitVec 16
  toa      : BitVec 8
  deltaI   : BitVec 16
  svHealth : BitVec 8
  sqrtA    : BitVec 24
  omega0   : BitVec 24
  omega    : BitVec 24
  m0       : BitVec 24
  deriving DecidableEq, Repr

/-- The nested variant of a subframe-5 page (R91, R271, R272). -/
inductive AlmanacVariant where
  | notDecoded
  | perSV (a : PerSV)
  deriving DecidableEq, Repr

/-- The tagged union over the five subframe kinds (R91). -/
inductive Variant where
  | clock (c : Clock)
  | ephemerisPart1 (e : EphemerisPart1)
  | ephemerisPart2 (e : EphemerisPart2)
  | pageFrame (pageId : BitVec 6) (dataId : BitVec 2) (v : PageVariant)
  | almanac (pageId : BitVec 6) (dataId : BitVec 2) (v : AlmanacVariant)
  deriving DecidableEq, Repr

/-- A DecodedSubframe (R91). -/
structure DecodedSubframe where
  header  : ResultHeader
  variant : Variant
  deriving DecidableEq, Repr

/-- The result of READ_CTX (R89): no week when `week_known` is 0. -/
structure Snapshot where
  weekKnown       : Bool
  gpsWeek         : Option (BitVec 10)
  leapSeconds     : BitVec 8
  leapSecondValid : Bool
  deriving DecidableEq, Repr

/-- The one response of a command: its status, with the info or the result that status carries (R90). -/
inductive Response where
  | decoded (d : DecodedSubframe)
  | snapshot (c : Snapshot)
  | preambleMismatch (preamble : BitVec 8)
  | parityFailure (index : BitVec 4) (expected actual : BitVec 6)
  | badPreamble (preamble : BitVec 8)
  | unknownSubframeID (sfid : BitVec 3)
  | refusedCommand (op : BitVec 2) (rsv : BitVec 6)
  deriving DecidableEq, Repr

/-- The status code of a response (R90, R300). -/
def Response.status : Response → BitVec 3
  | .decoded _ => 0
  | .snapshot _ => 0
  | .preambleMismatch _ => 1
  | .parityFailure _ _ _ => 2
  | .badPreamble _ => 3
  | .unknownSubframeID _ => 4
  | .refusedCommand _ _ => 5

/-- The tag of a variant, which is its subframe ID (R91). -/
def Variant.tag : Variant → BitVec 3
  | .clock _ => 1
  | .ephemerisPart1 _ => 2
  | .ephemerisPart2 _ => 3
  | .pageFrame _ _ _ => 4
  | .almanac _ _ _ => 5

end Sys2Proof.Machine
end

