-- ==== Sys2Proof/Machine/State.lean ====
section
/-! DEFINITION. The state of the block, the reasons a step could stop, and the state after reset. INVENTORY.md's
"## State" lists every field with its rule. -/

namespace Sys2Proof.Machine

/-- The reasons the block could stop with a fault: there is none. "The block has no fault state, no fault bit and no
stuck outcome" (R307), so no constructor exists and no one raises one. Safe: every step goes on, as the rule says. -/
inductive Fault where
  deriving DecidableEq, Repr

/-- The reasons the model has no meaning for an instruction. -/
inductive Refusal where
  /-- Raised by an arm of `exec` whose instruction is not modelled; no arm is such a one. Safe. -/
  | notModelled (mnemonic : String)
  deriving DecidableEq, Repr

/-- The block's state. -/
structure State where
  /-- The NavigationContext (R30 to R35, R38). -/
  ctx        : Context
  /-- The command serializer (R39). -/
  serializer : Serializer
  /-- The raw word buffer `W[0..9]` (R36). -/
  w          : Ten RawWord
  /-- The normalized word buffer `N[0..9]` (R36). -/
  n          : Ten NormWord
  /-- The header fields of the subframe being decoded (R36). -/
  hdr        : HeaderRegs
  /-- The outstanding entries of the request port (R65, R341, R344). -/
  pending    : List PortEvent
  /-- The responses, oldest first, in the order their commands ran (R90). -/
  responses  : List Response
  /-- The report port, oldest first (R312, R315). -/
  reports    : List Report
  /-- The model's own counter for the free order of R65 (DESIGN CHOICE, log entry 7). -/
  orderTick  : Nat
  /-- The model's own counter for the free extra reports of R314 (DESIGN CHOICE, log entry 8). -/
  reportTick : Nat
  deriving DecidableEq, Repr

/-- The state right after reset of a block whose baseline is `baseline` (R40, R340), with nothing presented yet. -/
def initialState (baseline : BitVec 8) : State where
  ctx := contextAtReset baseline
  serializer := .idle
  w := Ten.fill 0
  n := Ten.fill 0
  hdr := clearedHeader
  pending := []
  responses := []
  reports := []
  orderTick := 0
  reportTick := 0

/-- The machine right after reset (R40, R340). -/
def State.reset : State := initialState Config.baseline

end Sys2Proof.Machine
end

