-- ==== Sys2Proof/Machine/Operands.lean ====
section
/-! DEFINITION. The field maps: which bits of which normalized word each decoded field is (R83 to R85, R92 to R98), and
the words of the two payload forms (R80 to R82, R88). -/

namespace Sys2Proof.Machine

/-- `MASK_DI`: bits 6 to 29 (R82). -/
def maskDI : RawWord := 0x3FFFFFC0

/-- `W[29:6]`: the 24 data bits of a corrected raw word (R81, R143, R146). -/
def strip (w : RawWord) : NormWord := slice w 6 24

/-- `P[i][23:0]`: the normalized word of a DECODE_NORM slot, its top byte ignored (R88). -/
def slotPayload (p : RawWord) : NormWord := slice p 0 24

/-- The 8-bit high part of a 32-bit field, the low byte of its word, before the 24-bit low part (R97). -/
def joined (hi lo : NormWord) : BitVec 32 := slice hi 0 8 ++ lo

/-- The header fields of the words, for `svid` (R84, R85, R173). `alert` and `antispoof` are the same bit (D14). -/
def headerOf (svid : Byte) (n : Ten NormWord) : HeaderRegs where
  svid := svid
  tow := slice n.w1 7 17
  sfid := slice n.w1 2 3
  alert := slice n.w1 6 1
  antispoof := slice n.w1 6 1
  pageId := slice n.w2 16 6
  dataId := slice n.w2 22 2

/-- The header of a result (R175). -/
def resultHeader (h : HeaderRegs) : ResultHeader := ⟨h.svid, h.tow, h.sfid, h.alert, h.antispoof⟩

/-- The week of subframe 1 (R92, R201). -/
def weekOf (n : Ten NormWord) : BitVec 10 := slice n.w2 14 10

/-- The Clock fields (R92, R98, R200). -/
def clockOf (n : Ten NormWord) : Clock where
  l2Code := slice n.w2 12 2
  ura := slice n.w2 8 4
  svHealth := slice n.w2 2 6
  iodc := slice n.w2 0 2 ++ slice n.w7 16 8
  l2p := slice n.w3 23 1
  tgd := slice n.w6 0 8
  toc := slice n.w7 0 16
  af2 := slice n.w8 16 8
  af1 := slice n.w8 0 16
  af0 := slice n.w9 2 22

/-- The EphemerisPart1 fields (R93, R97, R202). -/
def ephemeris1Of (n : Ten NormWord) : EphemerisPart1 where
  iode := slice n.w2 16 8
  crs := slice n.w2 0 16
  deltaN := slice n.w3 8 16
  m0 := joined n.w3 n.w4
  cuc := slice n.w5 8 16
  e := joined n.w5 n.w6
  cus := slice n.w7 8 16
  sqrtA := joined n.w7 n.w8
  toe := slice n.w9 8 16
  fit := slice n.w9 7 1
  aodo := slice n.w9 2 5

/-- The EphemerisPart2 fields (R94, R97, R203). -/
def ephemeris2Of (n : Ten NormWord) : EphemerisPart2 where
  cic := slice n.w2 8 16
  omega0 := joined n.w2 n.w3
  cis := slice n.w4 8 16
  i0 := joined n.w4 n.w5
  crc := slice n.w6 8 16
  omega := joined n.w6 n.w7
  omegadot := n.w8
  iode := slice n.w9 16 8
  idot := slice n.w9 2 14

/-- The four bytes of the leap-second page (R95). -/
structure LeapFields where
  leap  : BitVec 8
  lsf   : BitVec 8
  wnlsf : BitVec 8
  dn    : BitVec 8
  deriving DecidableEq, Repr

/-- The leap-second fields of the words (R95, R241). -/
def leapFieldsOf (n : Ten NormWord) : LeapFields where
  leap := slice n.w8 16 8
  lsf := slice n.w9 16 8
  wnlsf := slice n.w8 8 8
  dn := slice n.w8 0 8

/-- The per-SV almanac fields (R96, R271). -/
def almanacOf (n : Ten NormWord) : PerSV where
  e := slice n.w2 0 16
  toa := slice n.w3 16 8
  deltaI := slice n.w3 0 16
  svHealth := slice n.w4 0 8
  sqrtA := n.w5
  omega0 := n.w6
  omega := n.w7
  m0 := n.w8

end Sys2Proof.Machine
end

