-- ==== Sys2Proof/Machine/Flags.lean ====
section
/-! DEFINITION. The block's status flags: `week_known` (R31, R201), `leap_second_valid` and the result's `clamped` (R33,
R242, R306), with the context fields written beside them and the report they call for (R243). -/

namespace Sys2Proof.Machine

/-- The week side effect of subframe 1: unconditional (R201). -/
def writeWeek (week : BitVec 10) (c : Context) : Context := { c with gpsWeek := week, weekKnown := true }

/-- What LEAP_SANITY leaves: the context, the result's `clamped`, the required report. -/
structure LeapOutcome where
  ctx     : Context
  clamped : Bool
  report  : Option Condition
  deriving DecidableEq, Repr

/-- PENDING_CHECK (R243). -/
def pendingCheck (svid : Byte) (f : LeapFields) : Option Condition :=
  if f.leap ≠ f.lsf then some (.leapPending svid f.leap f.lsf f.wnlsf f.dn) else none

/-- LEAP_SANITY: the unsigned floor comparison with `BASELINE` (R242, D16), and PENDING_CHECK on the accepted branch
only (R243, D17). -/
def leapSanity (p : Params) (svid : Byte) (f : LeapFields) (c : Context) : LeapOutcome :=
  if f.leap < p.baseline then
    { ctx := { c with leapSeconds := p.baseline, leapSecondValid := false }
      clamped := true
      report := some (.invalidLeapSeconds svid f.leap p.baseline) }
  else
    { ctx := { c with leapSeconds := f.leap, leapSecondValid := true }
      clamped := false
      report := pendingCheck svid f }

end Sys2Proof.Machine
end

