-- ==== Sys2Proof/Machine/Ops.lean ====
section
/-! DEFINITION. The named operations on the state: loading a command's words, ending a command, rejecting it (the block's
place of an exception, R309), the request port, reset. -/

namespace Sys2Proof.Machine

/-- The command's response is put on the response port (R90; DESIGN CHOICE, log entry 14: one list, no requesters). -/
def respond (r : Response) (s : State) : State := { s with responses := s.responses ++ [r] }

/-- The transient buffers and header registers are discarded and the serializer is idle (R36, R39; DESIGN CHOICE, log entry 6). -/
def discard (s : State) : State :=
  { s with serializer := .idle, w := Ten.fill 0, n := Ten.fill 0, hdr := clearedHeader }

/-- The report sequence of one decode: the required report, if any, with the free extra ones around it (R313, R314). -/
def reportSequence (e : ExtraReports) (c : Option Condition) : List Report :=
  e.before.map .extra ++ c.toList.map .required ++ e.after.map .extra

/-- A decode emits its reports (R313 to R315). -/
def emit (p : Params) (c : Option Condition) (s : State) : State :=
  { s with reports := s.reports ++ reportSequence (p.extraReports s.reportTick) c, reportTick := s.reportTick + 1 }

/-- A decode command ends: its reports, then its response (R315), and nothing transient is kept (R36, R37). -/
def endDecode (p : Params) (c : Option Condition) (r : Response) (s : State) : State :=
  discard (respond r (emit p c s))

/-- The rejections a decode raises, with their info (R301 to R304). -/
inductive Rejection where
  | preambleMismatch (preamble : BitVec 8)
  | parityFailure (index : BitVec 4) (expected actual : BitVec 6)
  | badPreamble (preamble : BitVec 8)
  | unknownSubframeID (sfid : BitVec 3)
  deriving DecidableEq, Repr

/-- The response of a rejection (R90, R300). -/
def rejectionResponse : Rejection → Response
  | .preambleMismatch pre => .preambleMismatch pre
  | .parityFailure index expected actual => .parityFailure index expected actual
  | .badPreamble pre => .badPreamble pre
  | .unknownSubframeID sfid => .unknownSubframeID sfid

/-- The report a rejection requires (R313). -/
def rejectionCondition (svid : Byte) : Rejection → Condition
  | .preambleMismatch pre => .preambleMismatch svid pre
  | .parityFailure index expected actual => .parityFailure svid index expected actual
  | .badPreamble pre => .badPreamble svid pre
  | .unknownSubframeID sfid => .unknownSubframeID svid sfid

/-- `raise`: the command ends with the rejection's status and info, its report is emitted, the buffers are discarded and no
context field is written (R309). Nothing is saved and there is nothing to return from: the next command runs normally
(R310). -/
def raise (p : Params) (x : Rejection) (s : State) : State :=
  endDecode p (some (rejectionCondition s.hdr.svid x)) (rejectionResponse x) s

/-- A decode ends OK with header `H` and variant `v` (R171, R175). -/
def accept (p : Params) (c : Option Condition) (v : Variant) (s : State) : State :=
  endDecode p c (.decoded ⟨resultHeader s.hdr, v⟩) s

/-- The context is written (R34). -/
def setContext (c : Context) (s : State) : State := { s with ctx := c }

/-- `W[i] <- P[i]` as a DECODE_RAW starts, with its `svid`; the serializer is running (R36, R39, R140). -/
def loadRaw (svid : Byte) (payload : Ten RawWord) (s : State) : State :=
  { s with serializer := .running, w := payload, hdr := { s.hdr with svid := svid } }

/-- `N[i] <- P[i][23:0]` as a DECODE_NORM starts, with its `svid`; the serializer is running (R36, R39, R88, R170). -/
def loadNorm (svid : Byte) (payload : Ten RawWord) (s : State) : State :=
  { s with serializer := .running, n := payload.map slotPayload, hdr := { s.hdr with svid := svid } }

/-- The Normalizer's result is stored in the word buffers: the corrected raw words and the stripped ones (R142 to R146). -/
def storeNormalized (w : Ten RawWord) (n : Ten NormWord) (s : State) : State := { s with w := w, n := n }

/-- Word 0 of the normalized buffer is replaced, as the preamble re-check does "in place" (R172). -/
def replaceWord0 (n0 : NormWord) (s : State) : State := { s with n := { s.n with w0 := n0 } }

/-- The header registers are read from the normalized words (R173). -/
def parseHeader (s : State) : State := { s with hdr := headerOf s.hdr.svid s.n }

/-- The dispatch key of the loaded subframe (R99). -/
def dispatchKey (s : State) : BitVec 9 := dispatchKeyOf s.hdr.sfid s.hdr.pageId

/-- A command or a reset is presented from outside (R65, R344). -/
def present (e : PortEvent) (s : State) : State := { s with pending := s.pending ++ [e] }

/-- The request port is written: its outstanding entries and the counter of its choices. -/
def setPort (l : List PortEvent) (o : Nat) (s : State) : State := { s with pending := l, orderTick := o }

/-- Which outstanding entry the serializer takes: a free choice where there is more than one (R65; DESIGN CHOICE, log entry 7). -/
def chosenIndex (p : Params) (s : State) : Nat :=
  match s.pending with
  | [_] => 0
  | l => p.order s.orderTick % l.length

/-- The serializer takes one outstanding entry off the request port; none where nothing is outstanding (R39, R65). -/
def takeNext (p : Params) (s : State) : Option (PortEvent × State) :=
  match s.pending[chosenIndex p s]? with
  | none => none
  | some e => some (e, setPort (s.pending.eraseIdx (chosenIndex p s)) (s.orderTick + 1) s)

/-- Reset creates a session: the context's reset values, the serializer idle, no report and no response (R340, R341). The other
outstanding entries stay (DESIGN CHOICE, log entry 13). -/
def resetSession (p : Params) (s : State) : State := discard (setContext (contextAtReset p.baseline) s)

/-- The words of a loaded subframe with the key's sfid and page_id put in their places (R84, R85). -/
def placeKeyWords (k : BitVec 9) (n : Ten NormWord) : Ten NormWord :=
  { n with
    w1 := (n.w1 &&& 0xFFFFE3) ||| ((slice k 6 3).setWidth 24 <<< 2)
    w2 := (n.w2 &&& 0xC0FFFF) ||| ((slice k 0 6).setWidth 24 <<< 16) }

/-- A state that stands at the dispatch of a subframe whose key is `k`. -/
def placeKey (k : BitVec 9) (s : State) : State :=
  parseHeader { s with serializer := .running, n := placeKeyWords k s.n }

/-- A state whose one outstanding entry is the command `r`. -/
def placeCommand (r : Request) (s : State) : State := { s with serializer := .idle, pending := [.command r] }

end Sys2Proof.Machine
end

