-- ==== Sys2Proof/Machine/Subframe4.lean ====
section
/-! DEFINITION. Subframe 4: the leap-second page and the pages not yet decoded (R240 to R247). -/

namespace Sys2Proof.Machine

/-- LEAP56: the leap-second page (R241), with LEAP_SANITY and PENDING_CHECK (R242, R243). -/
def runLeap56 (p : Params) (s : State) : State :=
  let f := leapFieldsOf s.n
  let o := leapSanity p s.hdr.svid f s.ctx
  accept p o.report (.pageFrame 56 s.hdr.dataId (.leapSecond f.leap f.lsf f.wnlsf f.dn o.clamped)) (setContext o.ctx s)

/-- PAGE4_NOP: any other page, page 55 among them (R245, R246). -/
def runPage4Nop (p : Params) (page : BitVec 6) (s : State) : State :=
  accept p (some (.pageNotDecoded s.hdr.svid 4 page)) (.pageFrame page s.hdr.dataId .notYetDecoded) s

/-- SF4_PAGE56_LEAP. -/
def execSf4Page56Leap (s : State) : Host.Outcome State Fault Refusal := .next (runLeap56 Config.build s)

/-- SF4_PAGE_NOP. -/
def execSf4PageNop (page : BitVec 6) (s : State) : Host.Outcome State Fault Refusal :=
  .next (runPage4Nop Config.build page s)

end Sys2Proof.Machine
end

