-- ==== Sys2Proof/Machine/Subframe5.lean ====
section
/-! DEFINITION. Subframe 5: the per-SV almanac pages and the pages not decoded (R270 to R272). -/

namespace Sys2Proof.Machine

/-- ALMANAC: a per-SV almanac page (R271). -/
def runAlmanac (p : Params) (page : BitVec 6) (s : State) : State :=
  accept p none (.almanac page s.hdr.dataId (.perSV (almanacOf s.n))) s

/-- PAGE5_NOP: any other page (R272). -/
def runPage5Nop (p : Params) (page : BitVec 6) (s : State) : State :=
  accept p (some (.pageNotDecoded s.hdr.svid 5 page)) (.almanac page s.hdr.dataId .notDecoded) s

/-- SF5_ALMANAC. -/
def execSf5Almanac (page : BitVec 6) (s : State) : Host.Outcome State Fault Refusal :=
  .next (runAlmanac Config.build page s)

/-- SF5_PAGE_NOP. -/
def execSf5PageNop (page : BitVec 6) (s : State) : Host.Outcome State Fault Refusal :=
  .next (runPage5Nop Config.build page s)

end Sys2Proof.Machine
end

