-- ==== Sys2Proof/Machine/Subframes123.lean ====
section
/-! DEFINITION. Subframes 1 to 3: SF1_CLOCK, SF2_EPHEMERIS1, SF3_EPHEMERIS2 (R200 to R204). Each arm runs on the loaded
words and header registers and ends OK. -/

namespace Sys2Proof.Machine

/-- CLOCK, with the week side effect (R200, R201). The page_id bits of the key are not used. -/
def runClock (p : Params) (s : State) : State :=
  accept p none (.clock (clockOf s.n)) (setContext (writeWeek (weekOf s.n) s.ctx) s)

/-- EPHEMERIS1 (R202). -/
def runEphemeris1 (p : Params) (s : State) : State := accept p none (.ephemerisPart1 (ephemeris1Of s.n)) s

/-- EPHEMERIS2 (R203); no cross-check with subframe 2 (R204). -/
def runEphemeris2 (p : Params) (s : State) : State := accept p none (.ephemerisPart2 (ephemeris2Of s.n)) s

/-- SF1_CLOCK. -/
def execSf1Clock (_page : BitVec 6) (s : State) : Host.Outcome State Fault Refusal :=
  .next (runClock Config.build s)

/-- SF2_EPHEMERIS1. -/
def execSf2Ephemeris1 (_page : BitVec 6) (s : State) : Host.Outcome State Fault Refusal :=
  .next (runEphemeris1 Config.build s)

/-- SF3_EPHEMERIS2. -/
def execSf3Ephemeris2 (_page : BitVec 6) (s : State) : Host.Outcome State Fault Refusal :=
  .next (runEphemeris2 Config.build s)

end Sys2Proof.Machine
end

