-- ==== Sys2Proof/Machine/Interpreter.lean ====
section
/-! DEFINITION. The Subframe Interpreter: header parsing, dispatch and the unknown subframe IDs (R171 to R178). -/

namespace Sys2Proof.Machine

/-- The preamble re-check: word 0, complemented within 24 bits where its preamble is the inverted form, or the preamble
that matches neither (R172). -/
def recheckPreamble (p : Params) (n0 : NormWord) : Except Rejection NormWord :=
  let pre : Byte := slice n0 16 8
  if pre = ~~~p.sentinel then .ok (~~~n0)
  else if pre ≠ p.sentinel then .error (.badPreamble pre)
  else .ok n0

/-- The rejection of subframe IDs 0, 6 and 7 (R174). -/
def runUnknown (p : Params) (sfid : BitVec 3) (s : State) : State := raise p (.unknownSubframeID sfid) s

/-- PAGE4: page 56 or another (R240). -/
def page4 (p : Params) (s : State) : State :=
  if s.hdr.pageId = 56 then runLeap56 p s else runPage4Nop p s.hdr.pageId s

/-- PAGE5: pages 1 to 24 or another (R270). -/
def page5 (p : Params) (s : State) : State :=
  if 1 ≤ s.hdr.pageId ∧ s.hdr.pageId ≤ 24 then runAlmanac p s.hdr.pageId s else runPage5Nop p s.hdr.pageId s

/-- The `case sfid of` of INTERPRET, on a loaded and parsed subframe (R171, R174). -/
def dispatch (p : Params) (s : State) : State :=
  if s.hdr.sfid = 1 then runClock p s
  else if s.hdr.sfid = 2 then runEphemeris1 p s
  else if s.hdr.sfid = 3 then runEphemeris2 p s
  else if s.hdr.sfid = 4 then page4 p s
  else if s.hdr.sfid = 5 then page5 p s
  else runUnknown p s.hdr.sfid s

/-- INTERPRET on the loaded normalized words (R171). -/
def interpret (p : Params) (s : State) : State :=
  match recheckPreamble p s.n.w0 with
  | .error x => raise p x s
  | .ok n0 => dispatch p (parseHeader (replaceWord0 n0 s))

/-- REJECT_SFID0. -/
def execRejectSfid0 (_page : BitVec 6) (s : State) : Host.Outcome State Fault Refusal :=
  .next (runUnknown Config.build 0 s)

/-- REJECT_SFID6. -/
def execRejectSfid6 (_page : BitVec 6) (s : State) : Host.Outcome State Fault Refusal :=
  .next (runUnknown Config.build 6 s)

/-- REJECT_SFID7. -/
def execRejectSfid7 (_page : BitVec 6) (s : State) : Host.Outcome State Fault Refusal :=
  .next (runUnknown Config.build 7 s)

end Sys2Proof.Machine
end

