-- ==== Sys2Proof/Machine/Normalizer.lean ====
section
/-! DEFINITION. The Raw Word Normalizer (R141 to R146). -/

namespace Sys2Proof.Machine

/-- Preamble detection and word-0 polarity correction: the corrected word 0, or the preamble that matches neither form
(R141, R142). -/
def correctWord0 (p : Params) (w0 : RawWord) : Except Rejection RawWord :=
  let pre : Byte := slice w0 22 8
  if pre = ~~~p.sentinel then .ok (w0 ^^^ maskDI)
  else if pre ≠ p.sentinel then .error (.preambleMismatch pre)
  else .ok w0

/-- Polarity correction of a word 1 to 9 by its own bit 30 (R144). -/
def correctPolarity (w : RawWord) : RawWord := if slice w 30 1 = 1 then w ^^^ maskDI else w

/-- Parity validation of the corrected word of index `i` (R145). -/
def parityError (p : Params) (i : BitVec 4) (w : RawWord) : Option Rejection :=
  if p.parity w ≠ slice w 0 6 then some (.parityFailure i (p.parity w) (slice w 0 6)) else none

/-- The words 1 to 9 with their indexes, in ascending order (R144). -/
def checkedWords (w : Ten RawWord) : List (BitVec 4 × RawWord) :=
  [(1, w.w1), (2, w.w2), (3, w.w3), (4, w.w4), (5, w.w5), (6, w.w6), (7, w.w7), (8, w.w8), (9, w.w9)]

/-- The first word, in ascending order, whose parity does not match (R145, R308). -/
def firstParityError (p : Params) (w : Ten RawWord) : Option Rejection :=
  (checkedWords w).findSome? fun iw => parityError p iw.1 iw.2

/-- The raw words after polarity correction, word 0 given (R142, R144). -/
def correctedWords (w0 : RawWord) (w : Ten RawWord) : Ten RawWord := { w.map correctPolarity with w0 := w0 }

/-- The Normalizer on the raw words: the corrected raw words and the normalized ones, or the rejection (R140). -/
def normalizeWords (p : Params) (w : Ten RawWord) : Except Rejection (Ten RawWord × Ten NormWord) :=
  match correctWord0 p w.w0 with
  | .error x => .error x
  | .ok w0 =>
    let c := correctedWords w0 w
    match firstParityError p c with
    | some x => .error x
    | none => .ok (c, c.map strip)

end Sys2Proof.Machine
end

