-- ==== Sys2Proof/Machine/Commands.lean ====
section
/-! DEFINITION. The commands of the request port: DECODE_RAW (R140), DECODE_NORM (R170), READ_CTX (R290) and the reserved
headers (R291). Each is one atomic transition (R63). -/

namespace Sys2Proof.Machine

/-- The Normalizer on the raw word buffer, then the hand-over to the Interpreter in the same step (R140, R147, R148). -/
def normalizeAndInterpret (p : Params) (s : State) : State :=
  match normalizeWords p s.w with
  | .error x => raise p x s
  | .ok c => interpret p (storeNormalized c.1 c.2 s)

/-- DECODE_RAW (R140). -/
def runDecodeRaw (p : Params) (svid : Byte) (payload : Ten RawWord) (s : State) : State :=
  normalizeAndInterpret p (loadRaw svid payload s)

/-- DECODE_NORM (R170). -/
def runDecodeNorm (p : Params) (svid : Byte) (payload : Ten RawWord) (s : State) : State :=
  interpret p (loadNorm svid payload s)

/-- The snapshot of the context: no week while none is known (R89, R290). -/
def snapshotOf (c : Context) : Snapshot where
  weekKnown := c.weekKnown
  gpsWeek := if c.weekKnown then some c.gpsWeek else none
  leapSeconds := c.leapSeconds
  leapSecondValid := c.leapSecondValid

/-- READ_CTX (R290): no state written, no report. -/
def runReadCtx (s : State) : State := respond (.snapshot (snapshotOf s.ctx)) s

/-- A refused command (R291, R305): no state written, no report, the payload not examined. -/
def runRefused (op : BitVec 2) (rsv : BitVec 6) (s : State) : State := respond (.refusedCommand op rsv) s

/-- DECODE_RAW. -/
def execDecodeRaw (svid : Byte) (payload : Ten RawWord) (s : State) : Host.Outcome State Fault Refusal :=
  .next (runDecodeRaw Config.build svid payload s)

/-- DECODE_NORM. -/
def execDecodeNorm (svid : Byte) (payload : Ten RawWord) (s : State) : Host.Outcome State Fault Refusal :=
  .next (runDecodeNorm Config.build svid payload s)

/-- READ_CTX; `svid` is ignored. -/
def execReadCtx (_svid : Byte) (s : State) : Host.Outcome State Fault Refusal := .next (runReadCtx s)

/-- RESERVED_OP3; `svid` is ignored. -/
def execReservedOp3 (_svid : Byte) (rsv : BitVec 6) (s : State) : Host.Outcome State Fault Refusal :=
  .next (runRefused 3 rsv s)

/-- RESERVED_RSV; `svid` is ignored. -/
def execReservedRsv (_svid : Byte) (rsv : BitVec 6) (op : BitVec 2) (s : State) : Host.Outcome State Fault Refusal :=
  .next (runRefused op rsv s)

end Sys2Proof.Machine
end

