-- ==== Sys2Proof/Machine/Dispatch.lean ====
section
/-! DEFINITION. exec: one arm for each constructor of Instr. -/

namespace Sys2Proof.Machine

def exec (i : Instr) (s : State) : Host.Outcome State Fault Refusal :=
  match i with
  | .decodeRaw svid payload => Sys2Proof.Machine.execDecodeRaw svid payload s
  | .decodeNorm svid payload => Sys2Proof.Machine.execDecodeNorm svid payload s
  | .readCtx svid => Sys2Proof.Machine.execReadCtx svid s
  | .reservedOp3 svid rsv => Sys2Proof.Machine.execReservedOp3 svid rsv s
  | .reservedRsv svid rsv op => Sys2Proof.Machine.execReservedRsv svid rsv op s
  | .sf1Clock page => Sys2Proof.Machine.execSf1Clock page s
  | .sf2Ephemeris1 page => Sys2Proof.Machine.execSf2Ephemeris1 page s
  | .sf3Ephemeris2 page => Sys2Proof.Machine.execSf3Ephemeris2 page s
  | .sf4Page56Leap => Sys2Proof.Machine.execSf4Page56Leap s
  | .sf4PageNop page => Sys2Proof.Machine.execSf4PageNop page s
  | .sf5Almanac page => Sys2Proof.Machine.execSf5Almanac page s
  | .sf5PageNop page => Sys2Proof.Machine.execSf5PageNop page s
  | .rejectSfid0 page => Sys2Proof.Machine.execRejectSfid0 page s
  | .rejectSfid6 page => Sys2Proof.Machine.execRejectSfid6 page s
  | .rejectSfid7 page => Sys2Proof.Machine.execRejectSfid7 page s

end Sys2Proof.Machine
end

