-- ==== Sys2Proof/Machine/Step.lean ====
section
/-! DEFINITION. One step of the block: one outstanding command, whole (R63), or one reset (R341). -/

namespace Sys2Proof.Machine

/-- The serializer takes one outstanding entry and runs it (R39, R63, R65): a command is the instruction its words decode
to, a reset creates a new session (R340). With nothing outstanding the block waits unchanged (DESIGN CHOICE, log entry 4). In a state that
stands at the dispatch of a loaded subframe, the row of the dispatch map runs (R99; DESIGN CHOICE, log entry 11). -/
def step (s : State) : Host.Outcome State Fault Refusal :=
  match s.serializer with
  | .running => exec (decodeKey (dispatchKey s)) s
  | .idle =>
    match takeNext Config.build s with
    | none => .next s
    | some (.command r, t) => exec (decodeCommand r) t
    | some (.reset, t) => .next (resetSession Config.build t)

/-- The state with an opcode-table word placed where the next step reads it (DESIGN CHOICE, log entries 3 and 9): a command as the one
outstanding entry of the request port, a dispatch key in the loaded words. -/
def State.withFetchWord (s : State) (nbits w : Nat) : State :=
  match tableWord nbits w with
  | .command r => placeCommand r s
  | .key k => placeKey k s

end Sys2Proof.Machine
end

