-- ==== Sys2Proof/Machine/Parity.lean ====
section
/-! DEFINITION. The reference `Parity` of spec/93_implementation_defined.md item G1, from general knowledge (PRESUMED, log
entry 2). The machine does not use it: its parity is the parameter `Config.parity` (R4). The spec's test vectors and R149
item 4 speak of it. -/

namespace Sys2Proof.Machine

/-- Whether an odd number of the low `n` bits of `v` are set. -/
def oddBits (v : BitVec 32) : Nat → Bool
  | 0 => false
  | k + 1 => xor (v.getLsbD k) (oddBits v k)

/-- The XOR of the bits of `w AND M`, as one bit (G1). -/
def parityBit (w mask : BitVec 32) : BitVec 1 := BitVec.ofBool (oddBits (w &&& mask) 32)

/-- D25 to D30 of G1, D25 at bit 5. -/
def referenceParity (w : RawWord) : BitVec 6 :=
  parityBit w 0xBB1F3480 ++ parityBit w 0x5D8F9A40 ++ parityBit w 0xAEC7CD00 ++ parityBit w 0x5763E680 ++
    parityBit w 0x6BB1F340 ++ parityBit w 0x8B7A89C0

end Sys2Proof.Machine
end

