-- ==== Sys2Proof/Safety.lean ====
section
/-! DEFINITION. The terms in which claims about runs of the block are stated: what a command leaves, the context invariant,
the loaded subframe, running a list of port entries in a given order. -/

namespace Sys2Proof.Machine

/-- The command answered with exactly `r` (R90). -/
def Answers (s t : State) (r : Response) : Prop := t.responses = s.responses ++ [r]

/-- The reports of one decode: the required one, if any, and any extra reports at PROG or IO around it (R313, R314). -/
def Emits (s t : State) (c : Option Condition) : Prop :=
  ∃ before after : List ExtraReport,
    t.reports = s.reports ++ (before.map .extra ++ c.toList.map .required ++ after.map .extra)

/-- Nothing transient is left: the serializer is idle and the buffers are discarded (R36, R39), that is 0 (DESIGN CHOICE, log entry 6). -/
def Quiescent (t : State) : Prop :=
  t.serializer = .idle ∧ t.w = Ten.fill 0 ∧ t.n = Ten.fill 0 ∧ t.hdr = clearedHeader

/-- Everything a decode leaves but the context: one response, its reports, the serializer idle, and the request port as it
was. -/
def EndsDecode (s t : State) (c : Option Condition) (r : Response) : Prop :=
  Answers s t r ∧ Emits s t c ∧ t.serializer = .idle ∧ t.pending = s.pending

/-- The leap-second registers of a session: the floor of R35, and the baseline wherever the flag is clear (R33, R40,
R242). -/
def LeapInv (s : State) : Prop :=
  Config.baseline ≤ s.ctx.leapSeconds ∧ (s.ctx.leapSecondValid = false → s.ctx.leapSeconds = Config.baseline)

/-- What the outside can see of the block: the context (by READ_CTX), the port and its outputs. -/
def visible (s : State) : Context × List PortEvent × List Response × List Report :=
  (s.ctx, s.pending, s.responses, s.reports)

/-- The state in which the words `n` of a subframe are loaded and its header is parsed (R171). -/
def loadedSubframe (svid : Byte) (n : Ten NormWord) (s : State) : State :=
  { s with
    serializer := .running
    n := n
    hdr :=
      { svid := svid
        tow := n.w1.extractLsb' 7 17
        sfid := n.w1.extractLsb' 2 3
        alert := n.w1.extractLsb' 6 1
        antispoof := n.w1.extractLsb' 6 1
        pageId := n.w2.extractLsb' 16 6
        dataId := n.w2.extractLsb' 22 2 } }

/-- The header that every OK response of the loaded subframe carries (R175). -/
def headerIn (s : State) : ResultHeader := ⟨s.hdr.svid, s.hdr.tow, s.hdr.sfid, s.hdr.alert, s.hdr.antispoof⟩

/-- A response without the `svid` it is labelled with. -/
def unlabelled : Response → Response
  | .decoded d => .decoded { d with header := { d.header with svid := 0 } }
  | r => r

/-- Whether a port entry is a command. -/
def isCommand : PortEvent → Bool
  | .command _ => true
  | .reset => false

/-- One port entry, whole: a command's instruction or a reset (R63, R340). -/
def serve (s : State) (e : PortEvent) : State :=
  match e with
  | .command r =>
    match exec (decodeCommand r) s with
    | .next t => t
    | _ => s
  | .reset => resetSession Config.build s

end Sys2Proof.Machine
end

