-- ==== Sys2Proof/Certificates/Slice0/Obligations.lean ====
section
/-! DEFINITION. The statements about the model, from the numbered rules of spec/. Fields are written with core Lean's
`extractLsb' lo len`, not with the model's own slices. A statement over every `Params` holds for every build and every free
value; the machine's own is `Config.build`. -/

open Sys2Proof Sys2Proof.Machine

/-! ## Encodings -/

/-- R86, R87, R99, R291: headers and keys written out from the spec's encodings, and the instructions they stand for. -/
def Obligations.SpecWordsDecode : Prop :=
  ∀ P : Ten RawWord,
    decodeCommand ⟨0x0500, P⟩ = .decodeRaw 5 P ∧ decodeCommand ⟨0x0501, P⟩ = .decodeNorm 5 P ∧
    decodeCommand ⟨0x0702, P⟩ = .readCtx 7 ∧ decodeCommand ⟨0x0003, P⟩ = .reservedOp3 0 0 ∧
    decodeCommand ⟨0x0004, P⟩ = .reservedRsv 0 1 0 ∧ decodeCommand ⟨0x05FF, P⟩ = .reservedRsv 5 0x3F 3 ∧
    decodeKey 0b001111100 = .sf1Clock 60 ∧ decodeKey 0b010000001 = .sf2Ephemeris1 1 ∧
    decodeKey 0b011000010 = .sf3Ephemeris2 2 ∧ decodeKey 0b100111000 = .sf4Page56Leap ∧
    decodeKey 0b100110111 = .sf4PageNop 55 ∧ decodeKey 0b101011000 = .sf5Almanac 24 ∧
    decodeKey 0b101011001 = .sf5PageNop 25 ∧ decodeKey 0b000000000 = .rejectSfid0 0 ∧
    decodeKey 0b110000001 = .rejectSfid6 1 ∧ decodeKey 0b111111111 = .rejectSfid7 63

/-- Decode and encode agree: every well-formed instruction of the table, at every value of its operands, is read back from
the words it is written as. -/
def Obligations.DecodeOfEncode : Prop := ∀ i : Instr, i.wf = true → decode (encode i) = i

/-- The other direction: a dispatch key is written back whole; a request keeps its whole header, and its payload where
the command reads one. -/
def Obligations.EncodeOfDecode : Prop :=
  (∀ k : BitVec 9, encode (decodeKey k) = .key k) ∧
  ∀ r : Request, ∃ P : Ten RawWord, encode (decodeCommand r) = .command ⟨r.cmd, P⟩ ∧
    (r.cmd &&& 0x00FE = 0 → P = r.payload)

/-- Every word of either format decodes to a well-formed instruction. -/
def Obligations.DecodedInstrIsWellFormed : Prop := ∀ e : Encoded, (decode e).wf = true

/-- R87, R100, R291: the command codes, by the "match" and "mask" of the table's CMD rows, a nonzero reserved field
first. -/
def Obligations.CommandHeadersDecode : Prop :=
  ∀ r : Request,
    let svid := r.cmd.extractLsb' 8 8
    (r.cmd &&& 0x00FF = 0x0000 → decodeCommand r = .decodeRaw svid r.payload) ∧
    (r.cmd &&& 0x00FF = 0x0001 → decodeCommand r = .decodeNorm svid r.payload) ∧
    (r.cmd &&& 0x00FF = 0x0002 → decodeCommand r = .readCtx svid) ∧
    (r.cmd &&& 0x00FF = 0x0003 → decodeCommand r = .reservedOp3 svid 0) ∧
    (r.cmd &&& 0x00FC ≠ 0 →
      decodeCommand r = .reservedRsv svid (r.cmd.extractLsb' 2 6) (r.cmd.extractLsb' 0 2))

/-- R99: the dispatch map, by the "match", "mask" and "condition" of the table's DISPATCH rows. -/
def Obligations.DispatchMapDecodes : Prop :=
  ∀ k : BitVec 9,
    let page := k.extractLsb' 0 6
    (k &&& 0x1C0 = 0x040 → decodeKey k = .sf1Clock page) ∧
    (k &&& 0x1C0 = 0x080 → decodeKey k = .sf2Ephemeris1 page) ∧
    (k &&& 0x1C0 = 0x0C0 → decodeKey k = .sf3Ephemeris2 page) ∧
    (k = 0x138 → decodeKey k = .sf4Page56Leap) ∧
    (k &&& 0x1C0 = 0x100 → page ≠ 56 → decodeKey k = .sf4PageNop page) ∧
    (k &&& 0x1C0 = 0x140 → 1 ≤ page ∧ page ≤ 24 → decodeKey k = .sf5Almanac page) ∧
    (k &&& 0x1C0 = 0x140 → page = 0 ∨ 25 ≤ page → decodeKey k = .sf5PageNop page) ∧
    (k &&& 0x1C0 = 0x000 → decodeKey k = .rejectSfid0 page) ∧
    (k &&& 0x1C0 = 0x180 → decodeKey k = .rejectSfid6 page) ∧
    (k &&& 0x1C0 = 0x1C0 → decodeKey k = .rejectSfid7 page)

/-- R171, R240, R270 against R99: INTERPRET's `case sfid of` with PAGE4 and PAGE5 does what the row of the dispatch map
for its key does. -/
def Obligations.CaseOfSfidRunsTheMapsRow : Prop :=
  ∀ s : State, exec (decodeKey (s.hdr.sfid ++ s.hdr.pageId)) s = .next (dispatch Config.build s)

/-! ## The step -/

/-- A step runs the decoded command: where the serializer's choice falls on a command, the step is its instruction's
`exec`, on the state whose port no longer holds it (the choice is a free value: log entry 7). -/
def Obligations.StepRunsTheDecodedCommand : Prop :=
  ∀ (s : State) (r : Request) (before after : List PortEvent),
    s.serializer = .idle → s.pending = before ++ .command r :: after →
    Config.order s.orderTick % s.pending.length = before.length →
    step s = exec (decodeCommand r) { s with pending := before ++ after, orderTick := s.orderTick + 1 }

/-- A step from a state that stands at a dispatch runs the row of the dispatch map (the model's own convention: log entry
11). -/
def Obligations.StepRunsTheDispatchRow : Prop :=
  ∀ s : State, s.serializer = .running → step s = exec (decodeKey (s.hdr.sfid ++ s.hdr.pageId)) s

/-- R340: a reset sets the context to its reset values and leaves the serializer idle; it emits no report and no
response. -/
def Obligations.ResetCreatesASession : Prop :=
  ∀ (s : State) (before after : List PortEvent),
    s.serializer = .idle → s.pending = before ++ .reset :: after →
    Config.order s.orderTick % s.pending.length = before.length →
    ∃ t, step s = .next t ∧ t.ctx.weekKnown = false ∧ t.ctx.leapSeconds = Config.baseline ∧
      t.ctx.leapSecondValid = false ∧ t.serializer = .idle ∧ t.responses = s.responses ∧ t.reports = s.reports

/-- R40: what the machine holds right after reset, with no week to be read. -/
def Obligations.ResetValues : Prop :=
  State.reset.ctx.weekKnown = false ∧ State.reset.ctx.leapSeconds = Config.baseline ∧
    State.reset.ctx.leapSecondValid = false ∧ State.reset.serializer = .idle ∧
    State.reset.responses = [] ∧ State.reset.reports = [] ∧ (snapshotOf State.reset.ctx).gpsWeek = none

/-- The model's own convention (log entry 4): with nothing outstanding the block waits unchanged. -/
def Obligations.BlockWithNothingOutstandingWaits : Prop :=
  ∀ s : State, s.serializer = .idle → s.pending = [] → step s = .next s

/-- R307: no fault and no stuck outcome, from any state. -/
def Obligations.StepNeverStops : Prop := ∀ s : State, ∃ t, step s = .next t

/-- R307, R300: every instruction on every state gives exactly one response, and its status is one of 0 to 5. -/
def Obligations.EveryCommandGetsOneResponse : Prop :=
  ∀ (i : Instr) (s : State), ∃ t r, exec i s = .next t ∧ Answers s t r ∧ r.status ≤ 5

/-- The host's word for an opcode-table row is what the next step runs, with the context, the responses and the reports
as they were (log entries 3 and 9). -/
def Obligations.PlacedWordRunsNext : Prop :=
  ∀ (s : State) (nbits w : Nat), ∃ i t, decodeTableWord nbits w = some i ∧ step (s.withFetchWord nbits w) = exec i t ∧
    t.ctx = s.ctx ∧ t.responses = s.responses ∧ t.reports = s.reports

/-! ## The commands -/

/-- R140 to R147: DECODE_RAW of words whose preamble is either form and whose corrected words 1 to 9 have their parity
runs the dispatch on the words stripped to bits 29 to 6, word 0 with the sentinel's polarity. -/
def Obligations.DecodeRawNormalizesAndDispatches : Prop :=
  (∀ svid P s, exec (.decodeRaw svid P) s = .next (runDecodeRaw Config.build svid P s)) ∧
  ∀ (p : Params) (svid : Byte) (P : Ten RawWord) (s : State),
    let flip := fun w : RawWord => if w.getLsbD 30 then w ^^^ 0x3FFFFFC0 else w
    let pre := P.w0.extractLsb' 22 8
    let data0 := P.w0.extractLsb' 6 24
    pre = p.sentinel ∨ pre = ~~~p.sentinel →
    (∀ i : Fin 10, i ≠ 0 → p.parity (flip (P.get i)) = (flip (P.get i)).extractLsb' 0 6) →
    runDecodeRaw p svid P s =
      dispatch p (loadedSubframe svid
        { P.map (fun w => (flip w).extractLsb' 6 24) with w0 := if pre = p.sentinel then data0 else ~~~data0 } s)

/-- R141, R301, R309: a raw word 0 whose preamble is neither form, whatever the words 1 to 9 hold. -/
def Obligations.PreambleMismatchRejects : Prop :=
  ∀ (svid : Byte) (P : Ten RawWord) (s : State),
    P.w0.extractLsb' 22 8 ≠ Config.sentinel → P.w0.extractLsb' 22 8 ≠ ~~~Config.sentinel →
    ∃ t, exec (.decodeRaw svid P) s = .next t ∧
      EndsDecode s t (some (.preambleMismatch svid (P.w0.extractLsb' 22 8)))
        (.preambleMismatch (P.w0.extractLsb' 22 8)) ∧
      t.ctx = s.ctx

/-- R145, R302, R308: the lowest word 1 to 9 whose parity does not match ends the command. -/
def Obligations.ParityFailureRejectsLowestWord : Prop :=
  ∀ (p : Params) (svid : Byte) (P : Ten RawWord) (s : State) (i : Fin 10),
    let flip := fun w : RawWord => if w.getLsbD 30 then w ^^^ 0x3FFFFFC0 else w
    let expected := p.parity (flip (P.get i))
    let actual := (P.get i).extractLsb' 0 6
    P.w0.extractLsb' 22 8 = p.sentinel ∨ P.w0.extractLsb' 22 8 = ~~~p.sentinel →
    i ≠ 0 → (∀ j : Fin 10, j ≠ 0 → j < i → p.parity (flip (P.get j)) = (P.get j).extractLsb' 0 6) →
    expected ≠ actual →
    EndsDecode s (runDecodeRaw p svid P s) (some (.parityFailure svid (BitVec.ofNat 4 i) expected actual))
        (.parityFailure (BitVec.ofNat 4 i) expected actual) ∧
      (runDecodeRaw p svid P s).ctx = s.ctx

/-- R170, R172, R173: DECODE_NORM of words whose preamble is either form completes, and it does what the dispatch row of its
key does on the loaded words. -/
def Obligations.DecodeNormDispatches : Prop :=
  ∀ (svid : Byte) (P : Ten RawWord) (s : State),
    let pre := P.w0.extractLsb' 16 8
    let d := P.map (fun w => w.extractLsb' 0 24)
    let n := { d with w0 := if pre = Config.sentinel then d.w0 else ~~~d.w0 }
    pre = Config.sentinel ∨ pre = ~~~Config.sentinel →
    ∃ t, exec (.decodeNorm svid P) s = .next t ∧
      exec (decodeKey (d.w1.extractLsb' 2 3 ++ d.w2.extractLsb' 16 6)) (loadedSubframe svid n s) = .next t

/-- R172, R303, R309: a normalized word 0 whose preamble is neither form, whatever its subframe ID. -/
def Obligations.BadPreambleRejects : Prop :=
  ∀ (svid : Byte) (P : Ten RawWord) (s : State),
    P.w0.extractLsb' 16 8 ≠ Config.sentinel → P.w0.extractLsb' 16 8 ≠ ~~~Config.sentinel →
    ∃ t, exec (.decodeNorm svid P) s = .next t ∧
      EndsDecode s t (some (.badPreamble svid (P.w0.extractLsb' 16 8))) (.badPreamble (P.w0.extractLsb' 16 8)) ∧
      t.ctx = s.ctx

/-- R290, R89: READ_CTX answers with the snapshot and changes nothing else; no week is returned while none is known, as
right after reset. -/
def Obligations.ReadCtxAnswersTheSnapshot : Prop :=
  (∀ (svid : Byte) (s : State),
    exec (.readCtx svid) s = .next { s with
      responses := s.responses ++ [.snapshot
        { weekKnown := s.ctx.weekKnown
          gpsWeek := if s.ctx.weekKnown = true then some s.ctx.gpsWeek else none
          leapSeconds := s.ctx.leapSeconds
          leapSecondValid := s.ctx.leapSecondValid }] }) ∧
  ∀ svid : Byte, ∃ t, exec (.readCtx svid) State.reset = .next t ∧
    t.responses = [.snapshot ⟨false, none, Config.baseline, false⟩]

/-- R291, R305: a header with command code 3 or a nonzero reserved field is refused whatever its payload, and only the
response changes; so is each reserved row. -/
def Obligations.ReservedHeadersAreRefused : Prop :=
  (∀ (r : Request) (s : State), r.cmd.extractLsb' 0 2 = 3 ∨ r.cmd.extractLsb' 2 6 ≠ 0 →
    exec (decodeCommand r) s = .next { s with
      responses := s.responses ++ [.refusedCommand (r.cmd.extractLsb' 0 2) (r.cmd.extractLsb' 2 6)] }) ∧
  (∀ svid rsv s, exec (.reservedOp3 svid rsv) s = .next { s with
      responses := s.responses ++ [.refusedCommand 3 rsv] }) ∧
  ∀ svid rsv op s, exec (.reservedRsv svid rsv op) s = .next { s with
      responses := s.responses ++ [.refusedCommand op rsv] }

/-! ## The dispatch rows -/

/-- R200, R201: the Clock fields and the unconditional week side effect, for any page_id. -/
def Obligations.ClockDecodesAndWritesTheWeek : Prop :=
  ∀ (page : BitVec 6) (s : State), decodeKey (1#3 ++ page) = .sf1Clock page ∧
    ∃ t, exec (.sf1Clock page) s = .next t ∧
      EndsDecode s t none (.decoded ⟨headerIn s, .clock
        { l2Code := s.n.w2.extractLsb' 12 2
          ura := s.n.w2.extractLsb' 8 4
          svHealth := s.n.w2.extractLsb' 2 6
          iodc := s.n.w2.extractLsb' 0 2 ++ s.n.w7.extractLsb' 16 8
          l2p := s.n.w3.extractLsb' 23 1
          tgd := s.n.w6.extractLsb' 0 8
          toc := s.n.w7.extractLsb' 0 16
          af2 := s.n.w8.extractLsb' 16 8
          af1 := s.n.w8.extractLsb' 0 16
          af0 := s.n.w9.extractLsb' 2 22 }⟩) ∧
      t.ctx = { s.ctx with gpsWeek := s.n.w2.extractLsb' 14 10, weekKnown := true }

/-- R202: the EphemerisPart1 fields, for any page_id; no context field is written. -/
def Obligations.Ephemeris1Decodes : Prop :=
  ∀ (page : BitVec 6) (s : State), decodeKey (2#3 ++ page) = .sf2Ephemeris1 page ∧
    ∃ t, exec (.sf2Ephemeris1 page) s = .next t ∧
      EndsDecode s t none (.decoded ⟨headerIn s, .ephemerisPart1
        { iode := s.n.w2.extractLsb' 16 8
          crs := s.n.w2.extractLsb' 0 16
          deltaN := s.n.w3.extractLsb' 8 16
          m0 := s.n.w3.extractLsb' 0 8 ++ s.n.w4
          cuc := s.n.w5.extractLsb' 8 16
          e := s.n.w5.extractLsb' 0 8 ++ s.n.w6
          cus := s.n.w7.extractLsb' 8 16
          sqrtA := s.n.w7.extractLsb' 0 8 ++ s.n.w8
          toe := s.n.w9.extractLsb' 8 16
          fit := s.n.w9.extractLsb' 7 1
          aodo := s.n.w9.extractLsb' 2 5 }⟩) ∧
      t.ctx = s.ctx

/-- R203: the EphemerisPart2 fields, for any page_id; no context field is written. -/
def Obligations.Ephemeris2Decodes : Prop :=
  ∀ (page : BitVec 6) (s : State), decodeKey (3#3 ++ page) = .sf3Ephemeris2 page ∧
    ∃ t, exec (.sf3Ephemeris2 page) s = .next t ∧
      EndsDecode s t none (.decoded ⟨headerIn s, .ephemerisPart2
        { cic := s.n.w2.extractLsb' 8 16
          omega0 := s.n.w2.extractLsb' 0 8 ++ s.n.w3
          cis := s.n.w4.extractLsb' 8 16
          i0 := s.n.w4.extractLsb' 0 8 ++ s.n.w5
          crc := s.n.w6.extractLsb' 8 16
          omega := s.n.w6.extractLsb' 0 8 ++ s.n.w7
          omegadot := s.n.w8
          iode := s.n.w9.extractLsb' 16 8
          idot := s.n.w9.extractLsb' 2 14 }⟩) ∧
      t.ctx = s.ctx

/-- R241, R242, R243: the leap-second page with its sanity rule. Below the baseline the context is clamped and an error is
reported, with no pending report; otherwise the broadcast value is applied, and a differing `lsf` is reported as
pending. -/
def Obligations.LeapPageAppliesTheSanityRule : Prop :=
  ∀ s : State, decodeKey (4#3 ++ 56#6) = .sf4Page56Leap ∧
    ∃ t, exec .sf4Page56Leap s = .next t ∧
      let leap := s.n.w8.extractLsb' 16 8
      let wnlsf := s.n.w8.extractLsb' 8 8
      let dn := s.n.w8.extractLsb' 0 8
      let lsf := s.n.w9.extractLsb' 16 8
      if leap.toNat < Config.baseline.toNat then
        EndsDecode s t (some (.invalidLeapSeconds s.hdr.svid leap Config.baseline))
            (.decoded ⟨headerIn s, .pageFrame 56 s.hdr.dataId (.leapSecond leap lsf wnlsf dn true)⟩) ∧
          t.ctx = { s.ctx with leapSeconds := Config.baseline, leapSecondValid := false }
      else
        EndsDecode s t (if leap = lsf then none else some (.leapPending s.hdr.svid leap lsf wnlsf dn))
            (.decoded ⟨headerIn s, .pageFrame 56 s.hdr.dataId (.leapSecond leap lsf wnlsf dn false)⟩) ∧
          t.ctx = { s.ctx with leapSeconds := leap, leapSecondValid := true }

/-- R245, R246: every other subframe-4 page, page 55 among them, is an OK decode with the not-yet-decoded variant. -/
def Obligations.OtherSubframe4PagesAreNoOps : Prop :=
  (∀ (page : BitVec 6) (s : State), ∃ t, exec (.sf4PageNop page) s = .next t ∧
    EndsDecode s t (some (.pageNotDecoded s.hdr.svid 4 page))
      (.decoded ⟨headerIn s, .pageFrame page s.hdr.dataId .notYetDecoded⟩) ∧
    t.ctx = s.ctx) ∧
  ∀ page : BitVec 6, page ≠ 56 → decodeKey (4#3 ++ page) = .sf4PageNop page

/-- R271: the per-SV almanac fields of pages 1 to 24; no context field is written. -/
def Obligations.AlmanacPagesDecode : Prop :=
  (∀ (page : BitVec 6) (s : State), ∃ t, exec (.sf5Almanac page) s = .next t ∧
    EndsDecode s t none (.decoded ⟨headerIn s, .almanac page s.hdr.dataId (.perSV
      { e := s.n.w2.extractLsb' 0 16
        toa := s.n.w3.extractLsb' 16 8
        deltaI := s.n.w3.extractLsb' 0 16
        svHealth := s.n.w4.extractLsb' 0 8
        sqrtA := s.n.w5
        omega0 := s.n.w6
        omega := s.n.w7
        m0 := s.n.w8 })⟩) ∧
    t.ctx = s.ctx) ∧
  ∀ page : BitVec 6, 1 ≤ page.toNat → page.toNat ≤ 24 → decodeKey (5#3 ++ page) = .sf5Almanac page

/-- R272: every other subframe-5 page is an OK decode with the not-decoded variant. -/
def Obligations.OtherSubframe5PagesAreNoOps : Prop :=
  (∀ (page : BitVec 6) (s : State), ∃ t, exec (.sf5PageNop page) s = .next t ∧
    EndsDecode s t (some (.pageNotDecoded s.hdr.svid 5 page))
      (.decoded ⟨headerIn s, .almanac page s.hdr.dataId .notDecoded⟩) ∧
    t.ctx = s.ctx) ∧
  ∀ page : BitVec 6, page.toNat = 0 ∨ 25 ≤ page.toNat → decodeKey (5#3 ++ page) = .sf5PageNop page

/-- R174, R304, R309: subframe IDs 0, 6 and 7 are rejected with no state mutation, for any page_id. -/
def Obligations.UnknownSubframeIdsAreRejected : Prop :=
  ∀ (page : BitVec 6) (s : State),
    (∃ t, exec (.rejectSfid0 page) s = .next t ∧
      EndsDecode s t (some (.unknownSubframeID s.hdr.svid 0)) (.unknownSubframeID 0) ∧ t.ctx = s.ctx) ∧
    (∃ t, exec (.rejectSfid6 page) s = .next t ∧
      EndsDecode s t (some (.unknownSubframeID s.hdr.svid 6)) (.unknownSubframeID 6) ∧ t.ctx = s.ctx) ∧
    (∃ t, exec (.rejectSfid7 page) s = .next t ∧
      EndsDecode s t (some (.unknownSubframeID s.hdr.svid 7)) (.unknownSubframeID 7) ∧ t.ctx = s.ctx) ∧
    decodeKey (0#3 ++ page) = .rejectSfid0 page ∧ decodeKey (6#3 ++ page) = .rejectSfid6 page ∧
    decodeKey (7#3 ++ page) = .rejectSfid7 page

/-! ## The Normalizer -/

/-- R82: polarity correction complements exactly the data bits 6 to 29; bits 30 and 31 and the parity bits keep their
values. -/
def Obligations.PolarityMaskCoversTheDataBits : Prop :=
  ∀ (w : RawWord) (i : Nat), i < 32 →
    (w ^^^ maskDI).getLsbD i = if 6 ≤ i ∧ i ≤ 29 then !(w.getLsbD i) else w.getLsbD i

/-- R149 item 1: a normalized subframe has the sentinel as its preamble, so DECODE_RAW never answers BadPreamble. -/
def Obligations.NormalizedPreambleIsTheSentinel : Prop :=
  (∀ (p : Params) (P c : Ten RawWord) (n : Ten NormWord), normalizeWords p P = .ok (c, n) →
    n.w0.extractLsb' 16 8 = p.sentinel) ∧
  ∀ (svid : Byte) (P : Ten RawWord) (s t : State) (pre : BitVec 8), exec (.decodeRaw svid P) s = .next t →
    ¬ Answers s t (.badPreamble pre)

/-- R149 item 2: a normalized word 1 to 9 is the payload under the polarity its bit 30 tells. -/
def Obligations.NormalizerReturnsThePayload : Prop :=
  ∀ (p : Params) (P c : Ten RawWord) (n : Ten NormWord), normalizeWords p P = .ok (c, n) →
    ∀ i : Fin 10, i ≠ 0 →
      n.get i = if (P.get i).getLsbD 30 then ~~~(P.get i).extractLsb' 6 24 else (P.get i).extractLsb' 6 24

/-- R149 item 3: an inverted word 0 gives the same normalized subframe, and so do words 1 to 9 sent with the other polarity,
where both word sets pass parity. -/
def Obligations.InversionGivesTheSameSubframe : Prop :=
  ∀ (p : Params) (P c : Ten RawWord) (n : Ten NormWord), normalizeWords p P = .ok (c, n) →
    (∃ c', normalizeWords p { P with w0 := P.w0 ^^^ 0x3FFFFFC0 } = .ok (c', n)) ∧
    ∀ (P' c' : Ten RawWord) (n' : Ten NormWord), P'.w0 = P.w0 →
      (∀ i : Fin 10, i ≠ 0 → P'.get i = P.get i ∨
        ((P'.get i).getLsbD 30 = !(P.get i).getLsbD 30 ∧
          (P'.get i).extractLsb' 6 24 = ~~~(P.get i).extractLsb' 6 24)) →
      normalizeWords p P' = .ok (c', n') → n' = n

/-- R149 item 5: bits 30 and 31 and the parity bits of word 0 are never read by DECODE_RAW. -/
def Obligations.WordZeroParityAndFlagAreUnread : Prop :=
  ∀ (svid : Byte) (P : Ten RawWord) (w0 : RawWord) (s : State), w0.extractLsb' 6 24 = P.w0.extractLsb' 6 24 →
    exec (.decodeRaw svid { P with w0 := w0 }) s = exec (.decodeRaw svid P) s

/-- R149 item 4, 93 G1: flipping a single data bit changes the reference parity (the reference is from general knowledge:
log entry 2). -/
def Obligations.ReferenceParitySeesEveryDataBit : Prop :=
  ∀ (w : RawWord) (i : Nat), 6 ≤ i → i ≤ 29 →
    referenceParity (w ^^^ BitVec.twoPow 32 i) ≠ referenceParity w

/-- R149 item 4: with the reference parity, flipping a single data bit of one word 1 to 9 of a valid subframe fails at that
word's index (the reference is from general knowledge: log entry 2). -/
def Obligations.SingleBitFlipFailsAtItsWord : Prop :=
  ∀ (p : Params) (P P' c : Ten RawWord) (n : Ten NormWord) (k : Fin 10) (i : Nat),
    p.parity = referenceParity → normalizeWords p P = .ok (c, n) → k ≠ 0 → 6 ≤ i → i ≤ 29 →
    P'.get k = P.get k ^^^ BitVec.twoPow 32 i → (∀ j : Fin 10, j ≠ k → P'.get j = P.get j) →
    ∃ e a, normalizeWords p P' = .error (.parityFailure (BitVec.ofNat 4 k) e a)

/-- R170: a raw subframe and its normalized words, presented by DECODE_NORM, have the same outcome. -/
def Obligations.RawAndDirectInvocationAgree : Prop :=
  ∀ (p : Params) (svid : Byte) (P c : Ten RawWord) (n : Ten NormWord) (s : State), normalizeWords p P = .ok (c, n) →
    runDecodeRaw p svid P s = runDecodeNorm p svid (n.map (fun d => 0#8 ++ d)) s

/-! ## What no command can do -/

/-- R88: the top byte of a DECODE_NORM slot is ignored. -/
def Obligations.DirectInvocationIgnoresTopBytes : Prop :=
  (∀ (svid : Byte) (P : Ten RawWord) (s : State) (i : Fin 10),
    (loadNorm svid P s).n.get i = (P.get i).extractLsb' 0 24) ∧
  ∀ (svid : Byte) (P Q : Ten RawWord) (s : State),
    (∀ i : Fin 10, (P.get i).extractLsb' 0 24 = (Q.get i).extractLsb' 0 24) →
    exec (.decodeNorm svid P) s = exec (.decodeNorm svid Q) s

/-- R6: `svid` labels a response and its reports and changes nothing else. -/
def Obligations.SvidOnlyLabels : Prop :=
  ∀ (v v' : Byte) (P : Ten RawWord) (s t t' : State),
    (exec (.decodeRaw v P) s = .next t ∧ exec (.decodeRaw v' P) s = .next t') ∨
      (exec (.decodeNorm v P) s = .next t ∧ exec (.decodeNorm v' P) s = .next t') →
    ∃ r r', Answers s t r ∧ Answers s t' r' ∧ unlabelled r = unlabelled r' ∧ t.ctx = t'.ctx ∧
      t.pending = t'.pending

/-- R36: no command reads what an earlier command left in the word buffers or the header registers. -/
def Obligations.TransientBuffersAreNotRead : Prop :=
  ∀ (r : Request) (s t t' : State) (w : Ten RawWord) (n : Ten NormWord) (h : HeaderRegs),
    exec (decodeCommand r) s = .next t → exec (decodeCommand r) { s with w := w, n := n, hdr := h } = .next t' →
    visible t = visible t'

/-- R67: what a decode command writes to the context, and what it answers and reports, does not come from the old
context. -/
def Obligations.DecodesDoNotReadTheContext : Prop :=
  ∀ (i : Instr) (v : Byte) (P : Ten RawWord) (s t t' : State) (c : Context),
    i = .decodeRaw v P ∨ i = .decodeNorm v P →
    exec i s = .next t → exec i { s with ctx := c } = .next t' →
    t'.responses = t.responses ∧ t'.reports = t.reports ∧
    ((t'.ctx.gpsWeek = t.ctx.gpsWeek ∧ t'.ctx.weekKnown = t.ctx.weekKnown) ∨
      (t.ctx.gpsWeek = s.ctx.gpsWeek ∧ t.ctx.weekKnown = s.ctx.weekKnown ∧
        t'.ctx.gpsWeek = c.gpsWeek ∧ t'.ctx.weekKnown = c.weekKnown)) ∧
    ((t'.ctx.leapSeconds = t.ctx.leapSeconds ∧ t'.ctx.leapSecondValid = t.ctx.leapSecondValid) ∨
      (t.ctx.leapSeconds = s.ctx.leapSeconds ∧ t.ctx.leapSecondValid = s.ctx.leapSecondValid ∧
        t'.ctx.leapSeconds = c.leapSeconds ∧ t'.ctx.leapSecondValid = c.leapSecondValid))

/-- R69: presenting the same command twice in succession leaves the same context as presenting it once. -/
def Obligations.CommandsAreIdempotentForTheContext : Prop :=
  ∀ (r : Request) (s t u : State), exec (decodeCommand r) s = .next t → exec (decodeCommand r) t = .next u →
    u.ctx = t.ctx

/-- R34: only a subframe-1 decode writes the week and only a page-56 decode writes the leap registers; every other step
but a reset leaves the context alone. -/
def Obligations.OnlyTwoDecodesWriteTheContext : Prop :=
  ∀ s t : State, step s = .next t →
    t.ctx = s.ctx ∨
    (∃ h c, Answers s t (.decoded ⟨h, .clock c⟩) ∧
      t.ctx = { s.ctx with gpsWeek := t.ctx.gpsWeek, weekKnown := true }) ∨
    (∃ h d leap lsf wnlsf dn k, Answers s t (.decoded ⟨h, .pageFrame 56 d (.leapSecond leap lsf wnlsf dn k)⟩) ∧
      t.ctx = { s.ctx with leapSeconds := t.ctx.leapSeconds, leapSecondValid := t.ctx.leapSecondValid }) ∨
    (s.serializer = .idle ∧ ∃ u, takeNext Config.build s = some (.reset, u))

/-- R176, R309: an instruction that answers with a status other than OK writes no context field and leaves nothing in
the port changed. -/
def Obligations.RejectionsWriteNoContext : Prop :=
  ∀ (i : Instr) (s t : State) (r : Response), exec i s = .next t → Answers s t r → r.status ≠ 0 →
    t.ctx = s.ctx ∧ t.pending = s.pending

/-- R301 to R305: which instruction can answer with which rejection. -/
def Obligations.EachRejectionHasItsRaiser : Prop :=
  ∀ (i : Instr) (s t : State), exec i s = .next t →
    (∀ pre, Answers s t (.preambleMismatch pre) → ∃ v P, i = .decodeRaw v P) ∧
    (∀ k e a, Answers s t (.parityFailure k e a) → ∃ v P, i = .decodeRaw v P) ∧
    (∀ pre, Answers s t (.badPreamble pre) → ∃ v P, i = .decodeNorm v P) ∧
    (∀ op rsv, Answers s t (.refusedCommand op rsv) →
      (∃ v q, i = .reservedOp3 v q) ∨ ∃ v q o, i = .reservedRsv v q o) ∧
    (∀ sfid, Answers s t (.unknownSubframeID sfid) →
      (∃ v P, i = .decodeRaw v P ∨ i = .decodeNorm v P) ∨
        ∃ page, i = .rejectSfid0 page ∨ i = .rejectSfid6 page ∨ i = .rejectSfid7 page)

/-- R173, R175: the header of a decode command's result is labelled with the header's svid, its alert and anti-spoof flags
are equal, and its subframe ID is the variant's tag. -/
def Obligations.ResultHeaderIsTheSubframes : Prop :=
  ∀ (r : Request) (s t : State) (d : DecodedSubframe), exec (decodeCommand r) s = .next t →
    Answers s t (.decoded d) →
    d.header.svid = r.cmd.extractLsb' 8 8 ∧ d.header.alert = d.header.antispoof ∧ d.header.sfid = d.variant.tag

/-- R313: the level of each required report, and a level of PROG or IO for any other (R314). -/
def Obligations.ReportLevels : Prop :=
  ∀ (v x y z w : BitVec 8) (k : BitVec 4) (e a : BitVec 6) (f : BitVec 3) (g : BitVec 6) (r : ExtraReport),
    (Report.required (.preambleMismatch v x)).level = .io ∧ (Report.required (.parityFailure v k e a)).level = .io ∧
    (Report.required (.badPreamble v x)).level = .warn ∧ (Report.required (.unknownSubframeID v f)).level = .prog ∧
    (Report.required (.pageNotDecoded v f g)).level = .prog ∧
    (Report.required (.invalidLeapSeconds v x y)).level = .error ∧
    (Report.required (.leapPending v x y z w)).level = .inf ∧
    ((Report.extra r).level = .prog ∨ (Report.extra r).level = .io)

/-! ## Invariants of every step -/

/-- R35, R33: every step keeps the floor of the leap-second register, and keeps it at the baseline while its flag is
clear. -/
def Obligations.StepKeepsTheLeapInvariant : Prop := ∀ s t : State, LeapInv s → step s = .next t → LeapInv t

/-- R35, R40: the leap invariant holds at reset. -/
def Obligations.ResetHasTheLeapInvariant : Prop := LeapInv State.reset

/-- R35 (C2): above the floor the register may go down: from any state a leap of 20 and then one of 19 leave 19 where the
baseline is 18. -/
def Obligations.AcceptedLeapMayGoDown : Prop :=
  ∀ (p : Params) (s : State) (m n : Ten NormWord), p.baseline = 18 →
    m.w8.extractLsb' 16 8 = 20#8 → n.w8.extractLsb' 16 8 = 19#8 →
    (runLeap56 p { s with n := m }).ctx.leapSeconds = 20 ∧
    (runLeap56 p { runLeap56 p { s with n := m } with n := n }).ctx.leapSeconds = 19

/-- R31: `week_known` is set by a subframe-1 decode and cleared by nothing but a reset. -/
def Obligations.WeekKnownFollowsClockDecodes : Prop :=
  ∀ s t : State, step s = .next t →
    (s.ctx.weekKnown = true → t.ctx.weekKnown = true ∨
      (s.serializer = .idle ∧ ∃ u, takeNext Config.build s = some (.reset, u))) ∧
    (s.ctx.weekKnown = false → t.ctx.weekKnown = true → ∃ h c, Answers s t (.decoded ⟨h, .clock c⟩))

/-- R39, R63: no step leaves a command half done: the serializer is idle after it, and no buffer of a decode is left
where none was before (R36; that a discarded buffer is 0 is the model's choice: log entry 6). -/
def Obligations.NoStepLeavesACommandHalfDone : Prop :=
  ∀ s t : State, step s = .next t →
    t.serializer = .idle ∧ (s.serializer = .running ∨ Quiescent s → Quiescent t)

/-- R90: the responses only grow, by exactly one for each command that leaves the port; a command leaves it only so, also
at a reset (the model's choice: log entry 13). -/
def Obligations.OneResponsePerCommand : Prop :=
  ∀ s t : State, s.serializer = .idle → step s = .next t →
    ∃ new : List Response, t.responses = s.responses ++ new ∧
      s.pending.countP isCommand = t.pending.countP isCommand + new.length ∧
      s.pending.length ≤ t.pending.length + 1

/-! ## Runs -/

/-- R351: a port with `k` entries outstanding is drained in `k` steps, each command among them answered. That a reset
leaves the other entries outstanding is the model's choice (log entry 13). -/
def Obligations.ThePortIsDrained : Prop :=
  ∀ s : State, s.serializer = .idle →
    ∃ t, Sys2Proof.core.run s.pending.length s = .next t ∧ t.pending = [] ∧
      t.responses.length = s.responses.length + s.pending.countP isCommand

/-- R63, R65: the outstanding commands and resets take effect one after the other, whole, in some order; what the outside
sees afterwards is what running them alone in that order leaves. That a reset leaves the other entries outstanding is the
model's choice (log entry 13). -/
def Obligations.OutstandingCommandsAreSerialized : Prop :=
  ∀ s : State, s.serializer = .idle →
    ∃ order : List PortEvent, order.Perm s.pending ∧
      ∃ t, Sys2Proof.core.run s.pending.length s = .next t ∧
        t.ctx = (order.foldl serve s).ctx ∧ t.responses = (order.foldl serve s).responses ∧
        t.reports = (order.foldl serve s).reports

/-- R65: the order is free: any outstanding entry can be the one taken. -/
def Obligations.AnyOutstandingEntryMayBeNext : Prop :=
  ∀ (s : State) (k : Nat) (h : k < s.pending.length), ∃ (p : Params) (t : State),
    takeNext p s = some (s.pending[k], t)
end

