-- ==== Sys2Proof/Laws/State.lean ====
section
/-! SUPPORT. One lemma for each field of State under each operation of Machine/Ops.lean: what the operation leaves in it. -/

namespace Sys2Proof.Machine

@[simp] theorem respond_ctx (r : Response) (s : State) : (respond r s).ctx = s.ctx := rfl
@[simp] theorem respond_serializer (r : Response) (s : State) : (respond r s).serializer = s.serializer := rfl
@[simp] theorem respond_w (r : Response) (s : State) : (respond r s).w = s.w := rfl
@[simp] theorem respond_n (r : Response) (s : State) : (respond r s).n = s.n := rfl
@[simp] theorem respond_hdr (r : Response) (s : State) : (respond r s).hdr = s.hdr := rfl
@[simp] theorem respond_pending (r : Response) (s : State) : (respond r s).pending = s.pending := rfl
@[simp] theorem respond_responses (r : Response) (s : State) : (respond r s).responses = s.responses ++ [r] := rfl
@[simp] theorem respond_reports (r : Response) (s : State) : (respond r s).reports = s.reports := rfl
@[simp] theorem respond_orderTick (r : Response) (s : State) : (respond r s).orderTick = s.orderTick := rfl
@[simp] theorem respond_reportTick (r : Response) (s : State) : (respond r s).reportTick = s.reportTick := rfl

@[simp] theorem discard_ctx (s : State) : (discard s).ctx = s.ctx := rfl
@[simp] theorem discard_serializer (s : State) : (discard s).serializer = .idle := rfl
@[simp] theorem discard_w (s : State) : (discard s).w = Ten.fill 0 := rfl
@[simp] theorem discard_n (s : State) : (discard s).n = Ten.fill 0 := rfl
@[simp] theorem discard_hdr (s : State) : (discard s).hdr = clearedHeader := rfl
@[simp] theorem discard_pending (s : State) : (discard s).pending = s.pending := rfl
@[simp] theorem discard_responses (s : State) : (discard s).responses = s.responses := rfl
@[simp] theorem discard_reports (s : State) : (discard s).reports = s.reports := rfl
@[simp] theorem discard_orderTick (s : State) : (discard s).orderTick = s.orderTick := rfl
@[simp] theorem discard_reportTick (s : State) : (discard s).reportTick = s.reportTick := rfl

@[simp] theorem emit_ctx (p : Params) (c : Option Condition) (s : State) : (emit p c s).ctx = s.ctx := rfl
@[simp] theorem emit_serializer (p : Params) (c : Option Condition) (s : State) :
    (emit p c s).serializer = s.serializer := rfl
@[simp] theorem emit_w (p : Params) (c : Option Condition) (s : State) : (emit p c s).w = s.w := rfl
@[simp] theorem emit_n (p : Params) (c : Option Condition) (s : State) : (emit p c s).n = s.n := rfl
@[simp] theorem emit_hdr (p : Params) (c : Option Condition) (s : State) : (emit p c s).hdr = s.hdr := rfl
@[simp] theorem emit_pending (p : Params) (c : Option Condition) (s : State) : (emit p c s).pending = s.pending := rfl
@[simp] theorem emit_responses (p : Params) (c : Option Condition) (s : State) :
    (emit p c s).responses = s.responses := rfl
@[simp] theorem emit_reports (p : Params) (c : Option Condition) (s : State) :
    (emit p c s).reports = s.reports ++ reportSequence (p.extraReports s.reportTick) c := rfl
@[simp] theorem emit_orderTick (p : Params) (c : Option Condition) (s : State) :
    (emit p c s).orderTick = s.orderTick := rfl
@[simp] theorem emit_reportTick (p : Params) (c : Option Condition) (s : State) :
    (emit p c s).reportTick = s.reportTick + 1 := rfl

@[simp] theorem setContext_ctx (c : Context) (s : State) : (setContext c s).ctx = c := rfl
@[simp] theorem setContext_serializer (c : Context) (s : State) : (setContext c s).serializer = s.serializer := rfl
@[simp] theorem setContext_w (c : Context) (s : State) : (setContext c s).w = s.w := rfl
@[simp] theorem setContext_n (c : Context) (s : State) : (setContext c s).n = s.n := rfl
@[simp] theorem setContext_hdr (c : Context) (s : State) : (setContext c s).hdr = s.hdr := rfl
@[simp] theorem setContext_pending (c : Context) (s : State) : (setContext c s).pending = s.pending := rfl
@[simp] theorem setContext_responses (c : Context) (s : State) : (setContext c s).responses = s.responses := rfl
@[simp] theorem setContext_reports (c : Context) (s : State) : (setContext c s).reports = s.reports := rfl
@[simp] theorem setContext_orderTick (c : Context) (s : State) : (setContext c s).orderTick = s.orderTick := rfl
@[simp] theorem setContext_reportTick (c : Context) (s : State) : (setContext c s).reportTick = s.reportTick := rfl

@[simp] theorem loadRaw_ctx (v : Byte) (P : Ten RawWord) (s : State) : (loadRaw v P s).ctx = s.ctx := rfl
@[simp] theorem loadRaw_serializer (v : Byte) (P : Ten RawWord) (s : State) :
    (loadRaw v P s).serializer = .running := rfl
@[simp] theorem loadRaw_w (v : Byte) (P : Ten RawWord) (s : State) : (loadRaw v P s).w = P := rfl
@[simp] theorem loadRaw_n (v : Byte) (P : Ten RawWord) (s : State) : (loadRaw v P s).n = s.n := rfl
@[simp] theorem loadRaw_hdr (v : Byte) (P : Ten RawWord) (s : State) :
    (loadRaw v P s).hdr = { s.hdr with svid := v } := rfl
@[simp] theorem loadRaw_pending (v : Byte) (P : Ten RawWord) (s : State) : (loadRaw v P s).pending = s.pending := rfl
@[simp] theorem loadRaw_responses (v : Byte) (P : Ten RawWord) (s : State) :
    (loadRaw v P s).responses = s.responses := rfl
@[simp] theorem loadRaw_reports (v : Byte) (P : Ten RawWord) (s : State) : (loadRaw v P s).reports = s.reports := rfl
@[simp] theorem loadRaw_orderTick (v : Byte) (P : Ten RawWord) (s : State) :
    (loadRaw v P s).orderTick = s.orderTick := rfl
@[simp] theorem loadRaw_reportTick (v : Byte) (P : Ten RawWord) (s : State) :
    (loadRaw v P s).reportTick = s.reportTick := rfl

@[simp] theorem loadNorm_ctx (v : Byte) (P : Ten RawWord) (s : State) : (loadNorm v P s).ctx = s.ctx := rfl
@[simp] theorem loadNorm_serializer (v : Byte) (P : Ten RawWord) (s : State) :
    (loadNorm v P s).serializer = .running := rfl
@[simp] theorem loadNorm_w (v : Byte) (P : Ten RawWord) (s : State) : (loadNorm v P s).w = s.w := rfl
@[simp] theorem loadNorm_n (v : Byte) (P : Ten RawWord) (s : State) : (loadNorm v P s).n = P.map slotPayload := rfl
@[simp] theorem loadNorm_hdr (v : Byte) (P : Ten RawWord) (s : State) :
    (loadNorm v P s).hdr = { s.hdr with svid := v } := rfl
@[simp] theorem loadNorm_pending (v : Byte) (P : Ten RawWord) (s : State) : (loadNorm v P s).pending = s.pending := rfl
@[simp] theorem loadNorm_responses (v : Byte) (P : Ten RawWord) (s : State) :
    (loadNorm v P s).responses = s.responses := rfl
@[simp] theorem loadNorm_reports (v : Byte) (P : Ten RawWord) (s : State) : (loadNorm v P s).reports = s.reports := rfl
@[simp] theorem loadNorm_orderTick (v : Byte) (P : Ten RawWord) (s : State) :
    (loadNorm v P s).orderTick = s.orderTick := rfl
@[simp] theorem loadNorm_reportTick (v : Byte) (P : Ten RawWord) (s : State) :
    (loadNorm v P s).reportTick = s.reportTick := rfl

@[simp] theorem storeNormalized_ctx (c : Ten RawWord) (m : Ten NormWord) (s : State) :
    (storeNormalized c m s).ctx = s.ctx := rfl
@[simp] theorem storeNormalized_serializer (c : Ten RawWord) (m : Ten NormWord) (s : State) :
    (storeNormalized c m s).serializer = s.serializer := rfl
@[simp] theorem storeNormalized_w (c : Ten RawWord) (m : Ten NormWord) (s : State) :
    (storeNormalized c m s).w = c := rfl
@[simp] theorem storeNormalized_n (c : Ten RawWord) (m : Ten NormWord) (s : State) :
    (storeNormalized c m s).n = m := rfl
@[simp] theorem storeNormalized_hdr (c : Ten RawWord) (m : Ten NormWord) (s : State) :
    (storeNormalized c m s).hdr = s.hdr := rfl
@[simp] theorem storeNormalized_pending (c : Ten RawWord) (m : Ten NormWord) (s : State) :
    (storeNormalized c m s).pending = s.pending := rfl
@[simp] theorem storeNormalized_responses (c : Ten RawWord) (m : Ten NormWord) (s : State) :
    (storeNormalized c m s).responses = s.responses := rfl
@[simp] theorem storeNormalized_reports (c : Ten RawWord) (m : Ten NormWord) (s : State) :
    (storeNormalized c m s).reports = s.reports := rfl
@[simp] theorem storeNormalized_orderTick (c : Ten RawWord) (m : Ten NormWord) (s : State) :
    (storeNormalized c m s).orderTick = s.orderTick := rfl
@[simp] theorem storeNormalized_reportTick (c : Ten RawWord) (m : Ten NormWord) (s : State) :
    (storeNormalized c m s).reportTick = s.reportTick := rfl

@[simp] theorem replaceWord0_ctx (n0 : NormWord) (s : State) : (replaceWord0 n0 s).ctx = s.ctx := rfl
@[simp] theorem replaceWord0_serializer (n0 : NormWord) (s : State) :
    (replaceWord0 n0 s).serializer = s.serializer := rfl
@[simp] theorem replaceWord0_w (n0 : NormWord) (s : State) : (replaceWord0 n0 s).w = s.w := rfl
@[simp] theorem replaceWord0_n (n0 : NormWord) (s : State) : (replaceWord0 n0 s).n = { s.n with w0 := n0 } := rfl
@[simp] theorem replaceWord0_hdr (n0 : NormWord) (s : State) : (replaceWord0 n0 s).hdr = s.hdr := rfl
@[simp] theorem replaceWord0_pending (n0 : NormWord) (s : State) : (replaceWord0 n0 s).pending = s.pending := rfl
@[simp] theorem replaceWord0_responses (n0 : NormWord) (s : State) : (replaceWord0 n0 s).responses = s.responses := rfl
@[simp] theorem replaceWord0_reports (n0 : NormWord) (s : State) : (replaceWord0 n0 s).reports = s.reports := rfl
@[simp] theorem replaceWord0_orderTick (n0 : NormWord) (s : State) : (replaceWord0 n0 s).orderTick = s.orderTick := rfl
@[simp] theorem replaceWord0_reportTick (n0 : NormWord) (s : State) :
    (replaceWord0 n0 s).reportTick = s.reportTick := rfl

@[simp] theorem parseHeader_ctx (s : State) : (parseHeader s).ctx = s.ctx := rfl
@[simp] theorem parseHeader_serializer (s : State) : (parseHeader s).serializer = s.serializer := rfl
@[simp] theorem parseHeader_w (s : State) : (parseHeader s).w = s.w := rfl
@[simp] theorem parseHeader_n (s : State) : (parseHeader s).n = s.n := rfl
@[simp] theorem parseHeader_hdr (s : State) : (parseHeader s).hdr = headerOf s.hdr.svid s.n := rfl
@[simp] theorem parseHeader_pending (s : State) : (parseHeader s).pending = s.pending := rfl
@[simp] theorem parseHeader_responses (s : State) : (parseHeader s).responses = s.responses := rfl
@[simp] theorem parseHeader_reports (s : State) : (parseHeader s).reports = s.reports := rfl
@[simp] theorem parseHeader_orderTick (s : State) : (parseHeader s).orderTick = s.orderTick := rfl
@[simp] theorem parseHeader_reportTick (s : State) : (parseHeader s).reportTick = s.reportTick := rfl

@[simp] theorem endDecode_ctx (p : Params) (c : Option Condition) (r : Response) (s : State) :
    (endDecode p c r s).ctx = s.ctx := rfl
@[simp] theorem endDecode_serializer (p : Params) (c : Option Condition) (r : Response) (s : State) :
    (endDecode p c r s).serializer = .idle := rfl
@[simp] theorem endDecode_w (p : Params) (c : Option Condition) (r : Response) (s : State) :
    (endDecode p c r s).w = Ten.fill 0 := rfl
@[simp] theorem endDecode_n (p : Params) (c : Option Condition) (r : Response) (s : State) :
    (endDecode p c r s).n = Ten.fill 0 := rfl
@[simp] theorem endDecode_hdr (p : Params) (c : Option Condition) (r : Response) (s : State) :
    (endDecode p c r s).hdr = clearedHeader := rfl
@[simp] theorem endDecode_pending (p : Params) (c : Option Condition) (r : Response) (s : State) :
    (endDecode p c r s).pending = s.pending := rfl
@[simp] theorem endDecode_responses (p : Params) (c : Option Condition) (r : Response) (s : State) :
    (endDecode p c r s).responses = s.responses ++ [r] := rfl
@[simp] theorem endDecode_reports (p : Params) (c : Option Condition) (r : Response) (s : State) :
    (endDecode p c r s).reports = s.reports ++ reportSequence (p.extraReports s.reportTick) c := rfl
@[simp] theorem endDecode_orderTick (p : Params) (c : Option Condition) (r : Response) (s : State) :
    (endDecode p c r s).orderTick = s.orderTick := rfl
@[simp] theorem endDecode_reportTick (p : Params) (c : Option Condition) (r : Response) (s : State) :
    (endDecode p c r s).reportTick = s.reportTick + 1 := rfl

@[simp] theorem raise_ctx (p : Params) (x : Rejection) (s : State) : (raise p x s).ctx = s.ctx := rfl
@[simp] theorem raise_serializer (p : Params) (x : Rejection) (s : State) : (raise p x s).serializer = .idle := rfl
@[simp] theorem raise_w (p : Params) (x : Rejection) (s : State) : (raise p x s).w = Ten.fill 0 := rfl
@[simp] theorem raise_n (p : Params) (x : Rejection) (s : State) : (raise p x s).n = Ten.fill 0 := rfl
@[simp] theorem raise_hdr (p : Params) (x : Rejection) (s : State) : (raise p x s).hdr = clearedHeader := rfl
@[simp] theorem raise_pending (p : Params) (x : Rejection) (s : State) : (raise p x s).pending = s.pending := rfl
@[simp] theorem raise_responses (p : Params) (x : Rejection) (s : State) :
    (raise p x s).responses = s.responses ++ [rejectionResponse x] := rfl
@[simp] theorem raise_reports (p : Params) (x : Rejection) (s : State) :
    (raise p x s).reports = s.reports ++ reportSequence (p.extraReports s.reportTick) (some (rejectionCondition s.hdr.svid x)) := rfl
@[simp] theorem raise_orderTick (p : Params) (x : Rejection) (s : State) : (raise p x s).orderTick = s.orderTick := rfl
@[simp] theorem raise_reportTick (p : Params) (x : Rejection) (s : State) :
    (raise p x s).reportTick = s.reportTick + 1 := rfl

@[simp] theorem accept_ctx (p : Params) (c : Option Condition) (v : Variant) (s : State) :
    (accept p c v s).ctx = s.ctx := rfl
@[simp] theorem accept_serializer (p : Params) (c : Option Condition) (v : Variant) (s : State) :
    (accept p c v s).serializer = .idle := rfl
@[simp] theorem accept_w (p : Params) (c : Option Condition) (v : Variant) (s : State) :
    (accept p c v s).w = Ten.fill 0 := rfl
@[simp] theorem accept_n (p : Params) (c : Option Condition) (v : Variant) (s : State) :
    (accept p c v s).n = Ten.fill 0 := rfl
@[simp] theorem accept_hdr (p : Params) (c : Option Condition) (v : Variant) (s : State) :
    (accept p c v s).hdr = clearedHeader := rfl
@[simp] theorem accept_pending (p : Params) (c : Option Condition) (v : Variant) (s : State) :
    (accept p c v s).pending = s.pending := rfl
@[simp] theorem accept_responses (p : Params) (c : Option Condition) (v : Variant) (s : State) :
    (accept p c v s).responses = s.responses ++ [.decoded ⟨resultHeader s.hdr, v⟩] := rfl
@[simp] theorem accept_reports (p : Params) (c : Option Condition) (v : Variant) (s : State) :
    (accept p c v s).reports = s.reports ++ reportSequence (p.extraReports s.reportTick) c := rfl
@[simp] theorem accept_orderTick (p : Params) (c : Option Condition) (v : Variant) (s : State) :
    (accept p c v s).orderTick = s.orderTick := rfl
@[simp] theorem accept_reportTick (p : Params) (c : Option Condition) (v : Variant) (s : State) :
    (accept p c v s).reportTick = s.reportTick + 1 := rfl

@[simp] theorem present_ctx (e : PortEvent) (s : State) : (present e s).ctx = s.ctx := rfl
@[simp] theorem present_serializer (e : PortEvent) (s : State) : (present e s).serializer = s.serializer := rfl
@[simp] theorem present_w (e : PortEvent) (s : State) : (present e s).w = s.w := rfl
@[simp] theorem present_n (e : PortEvent) (s : State) : (present e s).n = s.n := rfl
@[simp] theorem present_hdr (e : PortEvent) (s : State) : (present e s).hdr = s.hdr := rfl
@[simp] theorem present_pending (e : PortEvent) (s : State) : (present e s).pending = s.pending ++ [e] := rfl
@[simp] theorem present_responses (e : PortEvent) (s : State) : (present e s).responses = s.responses := rfl
@[simp] theorem present_reports (e : PortEvent) (s : State) : (present e s).reports = s.reports := rfl
@[simp] theorem present_orderTick (e : PortEvent) (s : State) : (present e s).orderTick = s.orderTick := rfl
@[simp] theorem present_reportTick (e : PortEvent) (s : State) : (present e s).reportTick = s.reportTick := rfl

@[simp] theorem setPort_ctx (l : List PortEvent) (o : Nat) (s : State) : (setPort l o s).ctx = s.ctx := rfl
@[simp] theorem setPort_serializer (l : List PortEvent) (o : Nat) (s : State) :
    (setPort l o s).serializer = s.serializer := rfl
@[simp] theorem setPort_w (l : List PortEvent) (o : Nat) (s : State) : (setPort l o s).w = s.w := rfl
@[simp] theorem setPort_n (l : List PortEvent) (o : Nat) (s : State) : (setPort l o s).n = s.n := rfl
@[simp] theorem setPort_hdr (l : List PortEvent) (o : Nat) (s : State) : (setPort l o s).hdr = s.hdr := rfl
@[simp] theorem setPort_pending (l : List PortEvent) (o : Nat) (s : State) : (setPort l o s).pending = l := rfl
@[simp] theorem setPort_responses (l : List PortEvent) (o : Nat) (s : State) :
    (setPort l o s).responses = s.responses := rfl
@[simp] theorem setPort_reports (l : List PortEvent) (o : Nat) (s : State) : (setPort l o s).reports = s.reports := rfl
@[simp] theorem setPort_orderTick (l : List PortEvent) (o : Nat) (s : State) : (setPort l o s).orderTick = o := rfl
@[simp] theorem setPort_reportTick (l : List PortEvent) (o : Nat) (s : State) :
    (setPort l o s).reportTick = s.reportTick := rfl

@[simp] theorem resetSession_ctx (p : Params) (s : State) : (resetSession p s).ctx = contextAtReset p.baseline := rfl
@[simp] theorem resetSession_serializer (p : Params) (s : State) : (resetSession p s).serializer = .idle := rfl
@[simp] theorem resetSession_w (p : Params) (s : State) : (resetSession p s).w = Ten.fill 0 := rfl
@[simp] theorem resetSession_n (p : Params) (s : State) : (resetSession p s).n = Ten.fill 0 := rfl
@[simp] theorem resetSession_hdr (p : Params) (s : State) : (resetSession p s).hdr = clearedHeader := rfl
@[simp] theorem resetSession_pending (p : Params) (s : State) : (resetSession p s).pending = s.pending := rfl
@[simp] theorem resetSession_responses (p : Params) (s : State) : (resetSession p s).responses = s.responses := rfl
@[simp] theorem resetSession_reports (p : Params) (s : State) : (resetSession p s).reports = s.reports := rfl
@[simp] theorem resetSession_orderTick (p : Params) (s : State) : (resetSession p s).orderTick = s.orderTick := rfl
@[simp] theorem resetSession_reportTick (p : Params) (s : State) : (resetSession p s).reportTick = s.reportTick := rfl

@[simp] theorem reset_ctx : State.reset.ctx = contextAtReset Config.baseline := rfl
@[simp] theorem reset_serializer : State.reset.serializer = .idle := rfl
@[simp] theorem reset_pending : State.reset.pending = [] := rfl
@[simp] theorem reset_responses : State.reset.responses = [] := rfl
@[simp] theorem reset_reports : State.reset.reports = [] := rfl

@[simp] theorem build_sentinel : Config.build.sentinel = Config.sentinel := rfl
@[simp] theorem build_baseline : Config.build.baseline = Config.baseline := rfl
@[simp] theorem build_parity : Config.build.parity = Config.parity := rfl
@[simp] theorem build_extraReports : Config.build.extraReports = Config.extraReports := rfl
@[simp] theorem build_order : Config.build.order = Config.order := rfl

end Sys2Proof.Machine
end

