-- ==== Sys2Proof/Laws/Ops.lean ====
section
/-! SUPPORT. One lemma for each shared operation that says once everything it can do. -/

namespace Sys2Proof.Machine

/-- The end of a decode: one response, its reports, the serializer idle; the context and the request port are as before. -/
theorem endDecode_spec (p : Params) (c : Option Condition) (r : Response) (s : State) :
    EndsDecode s (endDecode p c r s) c r ∧ (endDecode p c r s).ctx = s.ctx :=
  ⟨⟨rfl, ⟨_, _, rfl⟩, rfl, rfl⟩, rfl⟩

/-- A rejection is precise (R309). -/
theorem raise_spec (p : Params) (x : Rejection) (s : State) :
    EndsDecode s (raise p x s) (some (rejectionCondition s.hdr.svid x)) (rejectionResponse x) ∧
      (raise p x s).ctx = s.ctx :=
  endDecode_spec _ _ _ _

/-- An accepted decode answers with the header registers and its variant. -/
theorem accept_spec (p : Params) (c : Option Condition) (v : Variant) (s : State) :
    EndsDecode s (accept p c v s) c (.decoded ⟨resultHeader s.hdr, v⟩) ∧ (accept p c v s).ctx = s.ctx :=
  endDecode_spec _ _ _ _

/-- The end of a decode does not depend on the buffers, the header registers or the serializer it discards. -/
theorem endDecode_transient (p : Params) (c : Option Condition) (r : Response) (s : State) (x : Serializer)
    (w : Ten RawWord) (n : Ten NormWord) (h : HeaderRegs) :
    endDecode p c r { s with serializer := x, w := w, n := n, hdr := h } = endDecode p c r s := rfl

/-- What the serializer takes is one outstanding entry, and only it leaves the port. -/
theorem takeNext_some {p : Params} {s t : State} {e : PortEvent} (h : takeNext p s = some (e, t)) :
    ∃ k, s.pending[k]? = some e ∧
      t = setPort (s.pending.eraseIdx k) (s.orderTick + 1) s := by
  unfold takeNext at h
  split at h
  · cases h
  · rename_i heq
    simp only [Option.some.injEq, Prod.mk.injEq] at h
    exact ⟨chosenIndex p s, h.1 ▸ heq, h.2.symm⟩

/-- The choice among outstanding entries is one of them. -/
theorem chosenIndex_lt (p : Params) {s : State} (h : s.pending ≠ []) : chosenIndex p s < s.pending.length := by
  unfold chosenIndex
  split
  · simp_all
  · exact Nat.mod_lt _ (List.length_pos_of_ne_nil h)

/-- The serializer takes nothing only where nothing is outstanding. -/
theorem takeNext_none {p : Params} {s : State} (h : takeNext p s = none) : s.pending = [] := by
  unfold takeNext at h
  split at h
  · rename_i heq
    by_contra hne
    exact absurd (chosenIndex_lt p hne) (by simpa using List.getElem?_eq_none_iff.mp heq)
  · cases h

/-- What INTERPRET can do: reject on the preamble, or dispatch the parsed subframe (R171). -/
theorem interpret_cases (p : Params) (s : State) :
    (∃ x, recheckPreamble p s.n.w0 = .error x ∧ interpret p s = raise p x s) ∨
      ∃ n0, recheckPreamble p s.n.w0 = .ok n0 ∧
        interpret p s = dispatch p (parseHeader (replaceWord0 n0 s)) := by
  cases h : recheckPreamble p s.n.w0 with
  | error x => exact .inl ⟨x, rfl, by simp [interpret, h]⟩
  | ok n0 => exact .inr ⟨n0, rfl, by simp [interpret, h]⟩

/-- What the Normalizer stage of DECODE_RAW can do: reject, or hand over the normalized words (R140, R147, R148). -/
theorem normalizeAndInterpret_cases (p : Params) (s : State) :
    (∃ x, normalizeWords p s.w = .error x ∧ normalizeAndInterpret p s = raise p x s) ∨
      ∃ c n, normalizeWords p s.w = .ok (c, n) ∧ normalizeAndInterpret p s = interpret p (storeNormalized c n s) := by
  cases h : normalizeWords p s.w with
  | error x => exact .inl ⟨x, rfl, by simp [normalizeAndInterpret, h]⟩
  | ok cn => exact .inr ⟨cn.1, cn.2, rfl, by simp [normalizeAndInterpret, h]⟩

/-- The arms of the dispatch (R171, R240, R270). -/
theorem dispatch_cases (p : Params) (s : State) :
    (s.hdr.sfid = 1 ∧ dispatch p s = runClock p s) ∨ (s.hdr.sfid = 2 ∧ dispatch p s = runEphemeris1 p s) ∨
      (s.hdr.sfid = 3 ∧ dispatch p s = runEphemeris2 p s) ∨
      (s.hdr.sfid = 4 ∧ s.hdr.pageId = 56 ∧ dispatch p s = runLeap56 p s) ∨
      (s.hdr.sfid = 4 ∧ s.hdr.pageId ≠ 56 ∧ dispatch p s = runPage4Nop p s.hdr.pageId s) ∨
      (s.hdr.sfid = 5 ∧ (1 ≤ s.hdr.pageId ∧ s.hdr.pageId ≤ 24) ∧ dispatch p s = runAlmanac p s.hdr.pageId s) ∨
      (s.hdr.sfid = 5 ∧ ¬(1 ≤ s.hdr.pageId ∧ s.hdr.pageId ≤ 24) ∧ dispatch p s = runPage5Nop p s.hdr.pageId s) ∨
      ((s.hdr.sfid ≠ 1 ∧ s.hdr.sfid ≠ 2 ∧ s.hdr.sfid ≠ 3 ∧ s.hdr.sfid ≠ 4 ∧ s.hdr.sfid ≠ 5) ∧
        dispatch p s = runUnknown p s.hdr.sfid s) := by
  unfold dispatch
  split_ifs with h1 h2 h3 h4 h5
  · exact .inl ⟨h1, rfl⟩
  · exact .inr (.inl ⟨h2, rfl⟩)
  · exact .inr (.inr (.inl ⟨h3, rfl⟩))
  · unfold page4
    split_ifs with h
    · exact .inr (.inr (.inr (.inl ⟨h4, h, rfl⟩)))
    · exact .inr (.inr (.inr (.inr (.inl ⟨h4, h, rfl⟩))))
  · unfold page5
    split_ifs with h
    · exact .inr (.inr (.inr (.inr (.inr (.inl ⟨h5, h, rfl⟩)))))
    · exact .inr (.inr (.inr (.inr (.inr (.inr (.inl ⟨h5, h, rfl⟩))))))
  · exact .inr (.inr (.inr (.inr (.inr (.inr (.inr ⟨⟨h1, h2, h3, h4, h5⟩, rfl⟩))))))

/-- LEAP_SANITY's two branches (R242). -/
theorem leapSanity_cases (p : Params) (v : Byte) (f : LeapFields) (c : Context) :
    (f.leap < p.baseline ∧ leapSanity p v f c =
        ⟨{ c with leapSeconds := p.baseline, leapSecondValid := false }, true,
          some (.invalidLeapSeconds v f.leap p.baseline)⟩) ∨
      (p.baseline ≤ f.leap ∧ leapSanity p v f c =
        ⟨{ c with leapSeconds := f.leap, leapSecondValid := true }, false, pendingCheck v f⟩) := by
  unfold leapSanity
  split_ifs with h
  · exact .inl ⟨h, rfl⟩
  · exact .inr ⟨by simpa using h, rfl⟩

end Sys2Proof.Machine
end

