-- ==== Sys2Proof/Laws/Step.lean ====
section
/-! SUPPORT. What an instruction and a step can do, said once (inversion lemmas), for the claims over all of them. -/

namespace Sys2Proof.Machine

/-- How the response `r` of an instruction and its context write go together (R34, R201, R242). -/
inductive ContextEffect (s t : State) (r : Response) : Prop where
  | kept (h : t.ctx = s.ctx)
  | week (hd : ResultHeader) (c : Clock) (hr : r = .decoded ⟨hd, .clock c⟩) (w : BitVec 10) (h : t.ctx = writeWeek w s.ctx)
  | leap (hd : ResultHeader) (d : BitVec 2) (lp lsf wnlsf dn : BitVec 8) (k : Bool)
      (hr : r = .decoded ⟨hd, .pageFrame 56 d (.leapSecond lp lsf wnlsf dn k)⟩) (v : Byte) (f : LeapFields)
      (h : t.ctx = (leapSanity Config.build v f s.ctx).ctx)

/-- What every instruction does: it answers once, writes the context only as its response says, and leaves the request
port alone. -/
structure Effect (s t : State) (r : Response) : Prop where
  answers : Answers s t r
  context : ContextEffect s t r
  pending : t.pending = s.pending
  orderTick : t.orderTick = s.orderTick

/-- What every decode does besides: it leaves nothing transient. -/
def DecodeEffect (s t : State) : Prop := Quiescent t ∧ ∃ r, Effect s t r

theorem endDecode_quiescent (p : Params) (c : Option Condition) (r : Response) (s : State) :
    Quiescent (endDecode p c r s) := ⟨rfl, rfl, rfl, rfl⟩

/-- What is true of a decode from a state is true from any state with the same context, port and responses: the loading of
a command's words is no part of its effect. -/
theorem decodeEffect_of_loaded {s' s t : State} (h : DecodeEffect s' t) (hc : s'.ctx = s.ctx)
    (hr : s'.responses = s.responses) (hp : s'.pending = s.pending) (ho : s'.orderTick = s.orderTick) :
    DecodeEffect s t := by
  obtain ⟨hq, r, ha, hx, hpe, hot⟩ := h
  refine ⟨hq, r, by simpa [Answers, hr] using ha, ?_, hpe.trans hp, hot.trans ho⟩
  rcases hx with h | ⟨hd, c, e, w, h⟩ | ⟨hd, d, lp, lsf, wnlsf, dn, k, e, v, f, h⟩
  · exact .kept (h.trans hc)
  · exact .week hd c e w (hc ▸ h)
  · exact .leap hd d lp lsf wnlsf dn k e v f (hc ▸ h)

/-- A rejection answers and keeps the context. -/
theorem raise_effect (p : Params) (x : Rejection) (s : State) : DecodeEffect s (raise p x s) :=
  ⟨endDecode_quiescent _ _ _ _, rejectionResponse x, rfl, .kept rfl, rfl, rfl⟩

/-- What the dispatch of a loaded subframe does. -/
theorem dispatch_effect (s : State) : DecodeEffect s (dispatch Config.build s) := by
  rcases dispatch_cases Config.build s with ⟨_, e⟩ | ⟨_, e⟩ | ⟨_, e⟩ | ⟨_, _, e⟩ | ⟨_, _, e⟩ | ⟨_, _, e⟩ | ⟨_, _, e⟩ | ⟨_, e⟩ <;>
    rw [e]
  · exact ⟨endDecode_quiescent _ _ _ _, _, rfl, .week _ _ rfl _ rfl, rfl, rfl⟩
  · exact ⟨endDecode_quiescent _ _ _ _, _, rfl, .kept rfl, rfl, rfl⟩
  · exact ⟨endDecode_quiescent _ _ _ _, _, rfl, .kept rfl, rfl, rfl⟩
  · exact ⟨endDecode_quiescent _ _ _ _, _, rfl, .leap _ _ _ _ _ _ _ rfl _ _ rfl, rfl, rfl⟩
  · exact ⟨endDecode_quiescent _ _ _ _, _, rfl, .kept rfl, rfl, rfl⟩
  · exact ⟨endDecode_quiescent _ _ _ _, _, rfl, .kept rfl, rfl, rfl⟩
  · exact ⟨endDecode_quiescent _ _ _ _, _, rfl, .kept rfl, rfl, rfl⟩
  · exact raise_effect _ _ _

/-- What INTERPRET does on loaded words. -/
theorem interpret_effect (s : State) : DecodeEffect s (interpret Config.build s) := by
  rcases interpret_cases Config.build s with ⟨x, _, e⟩ | ⟨n0, _, e⟩ <;> rw [e]
  · exact raise_effect _ _ _
  · exact decodeEffect_of_loaded (dispatch_effect _) rfl rfl rfl rfl

/-- What DECODE_RAW does. -/
theorem decodeRaw_effect (v : Byte) (P : Ten RawWord) (s : State) :
    DecodeEffect s (runDecodeRaw Config.build v P s) := by
  unfold runDecodeRaw
  rcases normalizeAndInterpret_cases Config.build (loadRaw v P s) with ⟨x, _, e⟩ | ⟨c, n, _, e⟩ <;> rw [e]
  · exact ⟨endDecode_quiescent _ _ _ _, _, rfl, .kept rfl, rfl, rfl⟩
  · exact decodeEffect_of_loaded (interpret_effect _) rfl rfl rfl rfl

/-- What DECODE_NORM does. -/
theorem decodeNorm_effect (v : Byte) (P : Ten RawWord) (s : State) :
    DecodeEffect s (runDecodeNorm Config.build v P s) :=
  decodeEffect_of_loaded (interpret_effect (loadNorm v P s)) rfl rfl rfl rfl

/-- What an instruction can do. -/
theorem exec_effect {i : Instr} {s t : State} (h : exec i s = .next t) : ∃ r, Effect s t r := by
  cases i <;> cases h
  · exact (decodeRaw_effect _ _ _).2
  · exact (decodeNorm_effect _ _ _).2
  · exact ⟨_, rfl, .kept rfl, rfl, rfl⟩
  · exact ⟨_, rfl, .kept rfl, rfl, rfl⟩
  · exact ⟨_, rfl, .kept rfl, rfl, rfl⟩
  · exact ⟨_, rfl, .week _ _ rfl _ rfl, rfl, rfl⟩
  · exact ⟨_, rfl, .kept rfl, rfl, rfl⟩
  · exact ⟨_, rfl, .kept rfl, rfl, rfl⟩
  · exact ⟨_, rfl, .leap _ _ _ _ _ _ _ rfl _ _ rfl, rfl, rfl⟩
  · exact ⟨_, rfl, .kept rfl, rfl, rfl⟩
  · exact ⟨_, rfl, .kept rfl, rfl, rfl⟩
  · exact ⟨_, rfl, .kept rfl, rfl, rfl⟩
  · exact ⟨_, rfl, .kept rfl, rfl, rfl⟩
  · exact ⟨_, rfl, .kept rfl, rfl, rfl⟩
  · exact ⟨_, rfl, .kept rfl, rfl, rfl⟩

/-- The rows of the dispatch map leave nothing transient. -/
theorem dispatchRow_quiescent {k : BitVec 9} {s t : State} (h : exec (decodeKey k) s = .next t) : Quiescent t := by
  unfold decodeKey at h
  simp only at h
  split_ifs at h <;> cases h <;> exact endDecode_quiescent _ _ _ _

/-- A command is a decode, which leaves nothing transient, or changes nothing but the responses. -/
theorem command_transient {r : Request} {s t : State} (h : exec (decodeCommand r) s = .next t) :
    Quiescent t ∨ ∃ x, t = respond x s := by
  unfold decodeCommand at h
  simp only at h
  split_ifs at h <;> cases h
  · exact .inr ⟨_, rfl⟩
  · exact .inl (decodeRaw_effect _ _ _).1
  · exact .inl (decodeNorm_effect _ _ _).1
  · exact .inr ⟨_, rfl⟩
  · exact .inr ⟨_, rfl⟩

/-- What a step can do: a dispatch row, a wait, a command, or a reset. -/
theorem step_cases {s t : State} (h : step s = .next t) :
    (s.serializer = .running ∧ exec (decodeKey (dispatchKey s)) s = .next t) ∨
      (s.serializer = .idle ∧ s.pending = [] ∧ t = s) ∨
      (s.serializer = .idle ∧ ∃ r u, takeNext Config.build s = some (.command r, u) ∧
        exec (decodeCommand r) u = .next t) ∨
      (s.serializer = .idle ∧ ∃ u, takeNext Config.build s = some (.reset, u) ∧ t = resetSession Config.build u) := by
  unfold step at h
  split at h
  · exact .inl ⟨‹_›, h⟩
  · split at h
    · exact .inr (.inl ⟨‹_›, takeNext_none ‹_›, (Host.Outcome.next.inj h).symm⟩)
    · exact .inr (.inr (.inl ⟨‹_›, _, _, ‹_›, h⟩))
    · exact .inr (.inr (.inr ⟨‹_›, _, ‹_›, (Host.Outcome.next.inj h).symm⟩))

end Sys2Proof.Machine
end

