-- ==== Sys2Proof/Laws/Frames.lean ====
section
/-! SUPPORT. What the operations do not depend on: the request port, the context, the buffers a command loads. Each is said
through a setter that commutes with the operations. -/

namespace Sys2Proof.Machine

/-- The state with another raw word buffer. -/
def withRaw (w : Ten RawWord) (s : State) : State := { s with w := w }

@[simp] theorem withRaw_hdr (w : Ten RawWord) (s : State) : (withRaw w s).hdr = s.hdr := rfl
@[simp] theorem withRaw_n (w : Ten RawWord) (s : State) : (withRaw w s).n = s.n := rfl

theorem dispatch_setPort (p : Params) (l : List PortEvent) (o : Nat) (s : State) :
    dispatch p (setPort l o s) = setPort l o (dispatch p s) := by
  rcases dispatch_cases p s with ⟨h, e⟩ | ⟨h, e⟩ | ⟨h, e⟩ | ⟨h, g, e⟩ | ⟨h, g, e⟩ | ⟨h, g, e⟩ | ⟨h, g, e⟩ | ⟨h, e⟩ <;>
    rw [e] <;> unfold dispatch <;> simp only [setPort_hdr, h, reduceIte]
  · rfl
  · rfl
  · rfl
  · simp only [page4, setPort_hdr, g, reduceIte]; rfl
  · simp only [page4, setPort_hdr, g, reduceIte]; rfl
  · simp only [page5, setPort_hdr, g, and_self, reduceIte]; rfl
  · simp only [page5, setPort_hdr, g, reduceIte]; rfl
  · rfl

theorem interpret_setPort (p : Params) (l : List PortEvent) (o : Nat) (s : State) :
    interpret p (setPort l o s) = setPort l o (interpret p s) := by
  unfold interpret
  simp only [setPort_n]
  cases recheckPreamble p s.n.w0 with
  | error x => rfl
  | ok n0 => exact dispatch_setPort p l o (parseHeader (replaceWord0 n0 s))

theorem normalizeAndInterpret_setPort (p : Params) (l : List PortEvent) (o : Nat) (s : State) :
    normalizeAndInterpret p (setPort l o s) = setPort l o (normalizeAndInterpret p s) := by
  unfold normalizeAndInterpret
  simp only [setPort_w]
  cases normalizeWords p s.w with
  | error x => rfl
  | ok c => exact interpret_setPort p l o (storeNormalized c.1 c.2 s)

/-- An instruction neither reads nor writes the request port. -/
theorem exec_setPort (i : Instr) (l : List PortEvent) (o : Nat) {s t : State} (h : exec i s = .next t) :
    exec i (setPort l o s) = .next (setPort l o t) := by
  cases i <;> cases h
  case decodeRaw v P => exact congrArg Host.Outcome.next (normalizeAndInterpret_setPort _ l o (loadRaw v P s))
  case decodeNorm v P => exact congrArg Host.Outcome.next (interpret_setPort _ l o (loadNorm v P s))
  all_goals rfl

/-- The raw word buffer is not read by the dispatch, and it is discarded. -/
theorem dispatch_withRaw (p : Params) (w : Ten RawWord) (s : State) : dispatch p (withRaw w s) = dispatch p s := by
  rcases dispatch_cases p s with ⟨h, e⟩ | ⟨h, e⟩ | ⟨h, e⟩ | ⟨h, g, e⟩ | ⟨h, g, e⟩ | ⟨h, g, e⟩ | ⟨h, g, e⟩ | ⟨h, e⟩ <;>
    rw [e] <;> unfold dispatch <;> simp only [withRaw_hdr, h, reduceIte]
  · rfl
  · rfl
  · rfl
  · simp only [page4, withRaw_hdr, g, reduceIte]; rfl
  · simp only [page4, withRaw_hdr, g, reduceIte]; rfl
  · simp only [page5, withRaw_hdr, g, and_self, reduceIte]; rfl
  · simp only [page5, withRaw_hdr, g, reduceIte]; rfl
  · rfl

/-- Nor by the Interpreter. -/
theorem interpret_withRaw (p : Params) (w : Ten RawWord) (s : State) : interpret p (withRaw w s) = interpret p s := by
  unfold interpret
  simp only [withRaw_n]
  cases recheckPreamble p s.n.w0 with
  | error x => rfl
  | ok n0 => exact dispatch_withRaw p w (parseHeader (replaceWord0 n0 s))

/-- One step of a run, for any machine. -/
theorem run_succ (M : Host.Core) (n : Nat) (s : M.State) :
    M.run (n + 1) s =
      match M.step s with
      | .next t => M.run n t
      | .fault r => .fault r
      | .refused r => .refused r := rfl

/-- A run whose first step goes on to `t`. -/
theorem core_run_succ {s t : State} (n : Nat) (h : step s = .next t) :
    Sys2Proof.core.run (n + 1) s = Sys2Proof.core.run n t := by
  have hr := run_succ Sys2Proof.core n s
  rw [show Sys2Proof.core.step s = .next t from h] at hr
  exact hr

end Sys2Proof.Machine
end

