-- ==== Sys2Proof/Laws/Normalizer.lean ====
section
/-! SUPPORT. What the Normalizer and the preamble re-check answer, said once each. -/

namespace Sys2Proof

@[simp] theorem Ten.map_get {α β : Type} (f : α → β) (t : Ten α) (i : Fin 10) : (t.map f).get i = f (t.get i) := by
  fin_cases i <;> rfl

@[simp] theorem Ten.fill_get {α : Type} (a : α) (i : Fin 10) : (Ten.fill a).get i = a := by
  fin_cases i <;> rfl

/-- Ten slots equal by number are equal records. -/
theorem Ten.ext_get {α : Type} {s t : Ten α} (h : ∀ i : Fin 10, s.get i = t.get i) : s = t := by
  cases s; cases t
  simp only [Ten.mk.injEq]
  exact ⟨h 0, h 1, h 2, h 3, h 4, h 5, h 6, h 7, h 8, h 9⟩

namespace Machine

/-- The mask is bits 6 to 29 (R82). -/
theorem maskDI_getLsbD {i : Nat} (hi : i < 32) : maskDI.getLsbD i = decide (6 ≤ i ∧ i ≤ 29) :=
  (by decide : ∀ i : Fin 32, maskDI.getLsbD i = decide (6 ≤ i.val ∧ i.val ≤ 29)) ⟨i, hi⟩

/-- Inverting a word complements any slice of its data bits (R82). -/
theorem slice_invert_data {lo len : Nat} (hl : 6 ≤ lo) (hh : lo + len ≤ 30) (w : RawWord) :
    slice (w ^^^ maskDI) lo len = ~~~slice w lo len := by
  apply BitVec.eq_of_getLsbD_eq
  intro i hi
  have : (6 ≤ lo + i ∧ lo + i ≤ 29) := by omega
  simp [hi, maskDI_getLsbD (show lo + i < 32 by omega), this]

/-- Inverting a word keeps its parity bits (R82). -/
theorem slice_invert_parity (w : RawWord) : slice (w ^^^ maskDI) 0 6 = slice w 0 6 := by
  apply BitVec.eq_of_getLsbD_eq
  intro i hi
  simp [maskDI_getLsbD (show i < 32 by omega), show ¬ 6 ≤ i by omega]

/-- Polarity correction keeps the parity bits (R144). -/
theorem correctPolarity_parity (w : RawWord) : slice (correctPolarity w) 0 6 = slice w 0 6 := by
  unfold correctPolarity
  split
  · exact slice_invert_parity w
  · rfl

/-- The stripped word after polarity correction (R144, R146). -/
theorem strip_correctPolarity (w : RawWord) :
    strip (correctPolarity w) = if slice w 30 1 = 1 then ~~~strip w else strip w := by
  unfold correctPolarity
  split
  · exact slice_invert_data (by omega) (by omega) w
  · rfl

/-- The preamble of a stripped word is the raw word's preamble candidate (R81, R83). -/
theorem strip_preamble (w : RawWord) : slice (strip w) 16 8 = slice w 22 8 := by
  apply BitVec.eq_of_getLsbD_eq
  intro i hi
  simp [strip, hi, show 16 + i < 24 by omega, show 6 + (16 + i) = 22 + i by omega]

/-- The three outcomes of preamble detection (R141, R142). -/
theorem correctWord0_cases (p : Params) (w0 : RawWord) :
    (slice w0 22 8 = ~~~p.sentinel ∧ correctWord0 p w0 = .ok (w0 ^^^ maskDI)) ∨
      (slice w0 22 8 = p.sentinel ∧ correctWord0 p w0 = .ok w0) ∨
      ((slice w0 22 8 ≠ p.sentinel ∧ slice w0 22 8 ≠ ~~~p.sentinel) ∧
        correctWord0 p w0 = .error (.preambleMismatch (slice w0 22 8))) := by
  unfold correctWord0
  by_cases h : slice w0 22 8 = ~~~p.sentinel
  · exact .inl ⟨h, if_pos h⟩
  · by_cases g : slice w0 22 8 = p.sentinel
    · exact .inr (.inl ⟨g, (if_neg h).trans (if_neg (not_not.mpr g))⟩)
    · exact .inr (.inr ⟨⟨g, h⟩, (if_neg h).trans (if_pos g)⟩)

/-- The three outcomes of the preamble re-check (R172). -/
theorem recheckPreamble_cases (p : Params) (n0 : NormWord) :
    (slice n0 16 8 = ~~~p.sentinel ∧ recheckPreamble p n0 = .ok (~~~n0)) ∨
      (slice n0 16 8 = p.sentinel ∧ recheckPreamble p n0 = .ok n0) ∨
      ((slice n0 16 8 ≠ p.sentinel ∧ slice n0 16 8 ≠ ~~~p.sentinel) ∧
        recheckPreamble p n0 = .error (.badPreamble (slice n0 16 8))) := by
  unfold recheckPreamble
  by_cases h : slice n0 16 8 = ~~~p.sentinel
  · exact .inl ⟨h, if_pos h⟩
  · by_cases g : slice n0 16 8 = p.sentinel
    · exact .inr (.inl ⟨g, (if_neg h).trans (if_neg (not_not.mpr g))⟩)
    · exact .inr (.inr ⟨⟨g, h⟩, (if_neg h).trans (if_pos g)⟩)

/-- No word fails exactly when each of words 1 to 9 has its parity (R145). -/
theorem firstParityError_none (p : Params) (w : Ten RawWord) :
    firstParityError p w = none ↔ ∀ i : Fin 10, i ≠ 0 → p.parity (w.get i) = slice (w.get i) 0 6 := by
  have word : ∀ k x, parityError p k x = none ↔ p.parity x = slice x 0 6 := by
    intro k x
    unfold parityError
    by_cases h : p.parity x = slice x 0 6 <;> simp [h]
  simp only [firstParityError, checkedWords, List.findSome?_eq_none_iff, List.forall_mem_cons, word, List.not_mem_nil,
    false_implies, implies_true, and_true]
  constructor
  · rintro ⟨h1, h2, h3, h4, h5, h6, h7, h8, h9⟩ i hi
    fin_cases i
    · exact absurd rfl hi
    all_goals assumption
  · intro h
    exact ⟨h 1 (by decide), h 2 (by decide), h 3 (by decide), h 4 (by decide), h 5 (by decide), h 6 (by decide),
      h 7 (by decide), h 8 (by decide), h 9 (by decide)⟩

/-- A failing word is one of words 1 to 9, with its own parity (R145). -/
theorem firstParityError_some {p : Params} {w : Ten RawWord} {x : Rejection} (h : firstParityError p w = some x) :
    ∃ (k : BitVec 4) (v : RawWord), x = .parityFailure k (p.parity v) (slice v 0 6) := by
  obtain ⟨⟨k, v⟩, _, hk⟩ := List.exists_of_findSome?_eq_some h
  unfold parityError at hk
  split at hk
  · exact ⟨k, v, (Option.some.inj hk).symm⟩
  · cases hk

/-- The lowest word whose parity does not match is the one that fails (R145, R308). -/
theorem firstParityError_lowest {p : Params} {w : Ten RawWord} {i : Fin 10} (hi : i ≠ 0)
    (hl : ∀ j : Fin 10, j ≠ 0 → j < i → p.parity (w.get j) = slice (w.get j) 0 6)
    (hb : p.parity (w.get i) ≠ slice (w.get i) 0 6) :
    firstParityError p w = some (.parityFailure (BitVec.ofNat 4 i) (p.parity (w.get i)) (slice (w.get i) 0 6)) := by
  have ok : ∀ k (j : Fin 10), j ≠ 0 → j < i → parityError p k (w.get j) = none := by
    intro k j a b; exact if_neg (not_not.mpr (hl j a b))
  have bad : ∀ k, parityError p k (w.get i) = some (.parityFailure k (p.parity (w.get i)) (slice (w.get i) 0 6)) :=
    fun k => if_pos hb
  have e : checkedWords w = (List.finRange 10).tail.map fun j => (BitVec.ofNat 4 j.val, w.get j) := rfl
  have split : (List.finRange 10).tail =
      (List.finRange 10).tail.takeWhile (· < i) ++ i :: (List.finRange 10).tail.filter (i < ·) := by
    revert hi; clear hl hb ok bad; revert i; decide
  unfold firstParityError
  rw [e, split, List.findSome?_map, List.findSome?_append]
  rw [List.findSome?_eq_none_iff.mpr, Option.none_or, List.findSome?_cons, Function.comp, bad]
  intro j hj
  have hlt : j < i := by simpa using List.mem_takeWhile_imp hj
  refine ok _ j ?_ hlt
  rintro rfl
  exact absurd ((List.takeWhile_subset _) hj) (by decide)

/-- Words 1 to 9 of the corrected words (R144). -/
theorem correctedWords_get (w0 : RawWord) (w : Ten RawWord) (i : Fin 10) (hi : i ≠ 0) :
    (correctedWords w0 w).get i = correctPolarity (w.get i) := by
  fin_cases i
  · exact absurd rfl hi
  all_goals rfl

/-- What a successful normalization returns (R140). -/
theorem normalizeWords_ok {p : Params} {w c : Ten RawWord} {n : Ten NormWord} :
    normalizeWords p w = .ok (c, n) ↔
      ∃ w0, correctWord0 p w.w0 = .ok w0 ∧ c = correctedWords w0 w ∧ n = c.map strip ∧ firstParityError p c = none := by
  unfold normalizeWords
  cases h : correctWord0 p w.w0 with
  | error x => simp
  | ok w0 =>
    simp only [Except.ok.injEq, exists_eq_left']
    split
    · rename_i x hx
      simp only [reduceCtorEq, false_iff]
      rintro ⟨rfl, _, hn⟩
      rw [hx] at hn
      cases hn
    · rename_i hx
      simp only [Except.ok.injEq, Prod.mk.injEq]
      constructor
      · rintro ⟨rfl, rfl⟩
        exact ⟨rfl, rfl, hx⟩
      · rintro ⟨rfl, rfl, _⟩
        exact ⟨rfl, rfl⟩

end Machine

end Sys2Proof
end

