-- ==== Sys2Proof/Laws/PerInstr.lean ====
section
/-! SUPPORT. Family TableRow: the words written for a well-formed instruction have the fixed bits of its row of
spec/opcode_table.json. -/

namespace Sys2Proof.Laws.TableRow

/-- The encoding of `i` has the fixed bits ("match" under "mask") of its row of the opcode table. -/
def Statement (i : Instr) : Prop :=
  i.wf = true → (encode i).matchesRow i.tableRow.1 i.tableRow.2.1 i.tableRow.2.2 = true

/-- The low byte of a header is its rsv and op fields. -/
theorem header_low_byte (rsv : BitVec 6) (op : BitVec 2) (svid : Byte) :
    commandHeader svid rsv op &&& 0x00FF#16 = commandHeader 0 rsv op := by
  apply BitVec.eq_of_getLsbD_eq
  intro i hi
  have mask : ∀ j : Fin 16, (0x00FF#16).getLsbD j = decide (j.val < 8) := by decide
  have := mask ⟨i, hi⟩
  simp only [commandHeader, BitVec.getLsbD_and, BitVec.getLsbD_append, this]
  by_cases h2 : i < 2 <;> by_cases h8 : i < 8
  · simp [h2, h8]
  · omega
  · simp [h2, show i - 2 < 6 by omega, h8]
  · simp [h2, show ¬ i - 2 < 6 by omega, h8]

/-- The high three bits of a key are its sfid. -/
theorem key_high_bits : ∀ (sfid : BitVec 3) (page : BitVec 6), dispatchKeyOf sfid page &&& 0x1C0#9 = sfid ++ 0#6 := by
  decide

theorem decodeRaw (svid : Byte) (payload : Ten RawWord) : Statement (.decodeRaw svid payload) := fun _ => by
  simp only [encode, Encoded.matchesRow, Instr.tableRow, BitVec.ofNat_eq_ofNat, header_low_byte]
  rfl

theorem decodeNorm (svid : Byte) (payload : Ten RawWord) : Statement (.decodeNorm svid payload) := fun _ => by
  simp only [encode, Encoded.matchesRow, Instr.tableRow, BitVec.ofNat_eq_ofNat, header_low_byte]
  rfl

theorem readCtx (svid : Byte) : Statement (.readCtx svid) := fun _ => by
  simp only [encode, Encoded.matchesRow, Instr.tableRow, BitVec.ofNat_eq_ofNat, header_low_byte]
  rfl

theorem reservedOp3 (svid : Byte) (rsv : BitVec 6) : Statement (.reservedOp3 svid rsv) := fun h => by
  obtain rfl : rsv = 0 := by simpa [Instr.wf] using h
  have fixed : ∀ v : Byte, commandHeader v 0 3 &&& 0x0003#16 = 0x0003#16 := by decide
  simpa [encode, Encoded.matchesRow, Instr.tableRow] using fixed svid

theorem reservedRsv (svid : Byte) (rsv : BitVec 6) (op : BitVec 2) : Statement (.reservedRsv svid rsv op) := fun _ => by
  simp [encode, Encoded.matchesRow, Instr.tableRow]

theorem sf1Clock (page : BitVec 6) : Statement (.sf1Clock page) := fun _ => by
  simp only [encode, Encoded.matchesRow, Instr.tableRow, BitVec.ofNat_eq_ofNat, key_high_bits]
  rfl

theorem sf2Ephemeris1 (page : BitVec 6) : Statement (.sf2Ephemeris1 page) := fun _ => by
  simp only [encode, Encoded.matchesRow, Instr.tableRow, BitVec.ofNat_eq_ofNat, key_high_bits]
  rfl

theorem sf3Ephemeris2 (page : BitVec 6) : Statement (.sf3Ephemeris2 page) := fun _ => by
  simp only [encode, Encoded.matchesRow, Instr.tableRow, BitVec.ofNat_eq_ofNat, key_high_bits]
  rfl

theorem sf4Page56Leap : Statement .sf4Page56Leap := fun _ => by decide

theorem sf4PageNop (page : BitVec 6) : Statement (.sf4PageNop page) := fun _ => by
  simp only [encode, Encoded.matchesRow, Instr.tableRow, BitVec.ofNat_eq_ofNat, key_high_bits]
  rfl

theorem sf5Almanac (page : BitVec 6) : Statement (.sf5Almanac page) := fun _ => by
  simp only [encode, Encoded.matchesRow, Instr.tableRow, BitVec.ofNat_eq_ofNat, key_high_bits]
  rfl

theorem sf5PageNop (page : BitVec 6) : Statement (.sf5PageNop page) := fun _ => by
  simp only [encode, Encoded.matchesRow, Instr.tableRow, BitVec.ofNat_eq_ofNat, key_high_bits]
  rfl

theorem rejectSfid0 (page : BitVec 6) : Statement (.rejectSfid0 page) := fun _ => by
  simp only [encode, Encoded.matchesRow, Instr.tableRow, BitVec.ofNat_eq_ofNat, key_high_bits]
  rfl

theorem rejectSfid6 (page : BitVec 6) : Statement (.rejectSfid6 page) := fun _ => by
  simp only [encode, Encoded.matchesRow, Instr.tableRow, BitVec.ofNat_eq_ofNat, key_high_bits]
  rfl

theorem rejectSfid7 (page : BitVec 6) : Statement (.rejectSfid7 page) := fun _ => by
  simp only [encode, Encoded.matchesRow, Instr.tableRow, BitVec.ofNat_eq_ofNat, key_high_bits]
  rfl

end Sys2Proof.Laws.TableRow
end

