-- ==== Sys2Proof/Tests/Slice0.lean ====
section
/-! SUPPORT. Tests of the model on the vectors of spec/95_test_vectors.md, in its test configuration (SENTINEL 0x8B, BASELINE
18, reference parity), and a witness for the hypotheses of each obligation that has some. Every expected value is the
spec's. -/

namespace Sys2Proof.Tests

open Sys2Proof.Machine

set_option maxRecDepth 8000

/-! ## WellFormed: each check refuses an ill-formed term -/

/-- R99, R100: a reserved header with the wrong rsv, page 56 as a no-op page, almanac pages 0 and 25, no-op pages 1 and
24. -/
theorem test_wf_refuses :
    (Instr.reservedOp3 0 1).wf = false ∧ (Instr.reservedRsv 0 0 2).wf = false ∧ (Instr.sf4PageNop 56).wf = false ∧
      (Instr.sf5Almanac 0).wf = false ∧ (Instr.sf5Almanac 25).wf = false ∧ (Instr.sf5PageNop 1).wf = false ∧
      (Instr.sf5PageNop 24).wf = false := by decide

/-- R99, R100: the terms beside those are well formed. -/
theorem test_wf_accepts :
    (Instr.reservedOp3 0 0).wf = true ∧ (Instr.reservedRsv 0 1 2).wf = true ∧ (Instr.sf4PageNop 55).wf = true ∧
      (Instr.sf5Almanac 1).wf = true ∧ (Instr.sf5Almanac 24).wf = true ∧ (Instr.sf5PageNop 0).wf = true ∧
      (Instr.sf5PageNop 25).wf = true := by decide

/-! ## The test configuration and the recurring payloads (95_test_vectors.md section 0) -/

/-- The test configuration, with no extra reports. -/
def testParams : Params where
  sentinel := 0x8B
  baseline := 18
  parity := referenceParity
  extraReports := fun _ => ⟨[], []⟩
  order := fun _ => 0

/-- The state right after reset in the test configuration. -/
def start : State := initialState 18

/-- The normalized words of a payload, in slots whose top byte is zero. -/
def slots (n : Ten NormWord) : Ten RawWord := n.map fun d => 0#8 ++ d

/-- RAW56. -/
def raw56 : Ten RawWord :=
  ⟨0x22C00012, 0x007D0432, 0x1E00003C, 0x00000000, 0x00000000, 0x00000000, 0x00000000, 0x00000000, 0x049901D7, 0x04800006⟩

/-- N56. -/
def n56 : Ten NormWord :=
  ⟨0x8B0000, 0x01F410, 0x780000, 0x000000, 0x000000, 0x000000, 0x000000, 0x000000, 0x126407, 0x120000⟩

/-- RAWCLK. -/
def rawClk : Ten RawWord :=
  ⟨0x22C00012, 0x007D2133, 0x2BC4806A, 0x2000002A, 0x00000000, 0x00000000, 0x00003D8F, 0x154151BE, 0x003FFC1E, 0x3FFFF01D⟩

/-- NCLK. -/
def nClk : Ten NormWord :=
  ⟨0x8B0000, 0x01F484, 0xAF1201, 0x800000, 0x000000, 0x000000, 0x0000F6, 0x550546, 0x00FFF0, 0xFFFFC0⟩

/-- The Clock of V-S1a. -/
def clockS1a : Clock := ⟨1, 2, 0, 0x155, 1, 0xF6, 0x0546, 0x00, 0xFFF0, 0x3FFFF0⟩

/-- `OK` with `H56` of `svid` and `LS(leap, lsf, clamped)`. -/
def okLeap (svid leap lsf : Byte) (clamped : Bool) : Response :=
  .decoded ⟨⟨svid, 1000, 4, 0, 0⟩, .pageFrame 56 1 (.leapSecond leap lsf 100 7 clamped)⟩

/-- What a vector gives: the response, the required reports, the context after. -/
def outcome (s : State) : List Response × List Report × Context := (s.responses, s.reports, s.ctx)

/-- The context `(0, -, leap, valid)`. -/
def noWeek (leap : Byte) (valid : Bool) : Context := ⟨0, false, leap, valid⟩

/-! ## Decoding: words written out from the encodings of R86, R87, R99 -/

/-- The CMD rows. -/
theorem test_decode_commands (P : Ten RawWord) :
    decodeCommand ⟨0b1100100000000000, P⟩ = .decodeRaw 200 P ∧ decodeCommand ⟨0b0000010100000001, P⟩ = .decodeNorm 5 P ∧
      decodeCommand ⟨0b0000011100000010, P⟩ = .readCtx 7 ∧ decodeCommand ⟨0b0000000000000011, P⟩ = .reservedOp3 0 0 ∧
      decodeCommand ⟨0b0000010111111111, P⟩ = .reservedRsv 5 0x3F 3 ∧
      decodeCommand ⟨0b0000000000000100, P⟩ = .reservedRsv 0 1 0 := by
  simp +decide [decodeCommand]

/-- The DISPATCH rows. -/
theorem test_decode_keys :
    decodeKey 0b001111100 = .sf1Clock 60 ∧ decodeKey 0b010000001 = .sf2Ephemeris1 1 ∧
      decodeKey 0b011111111 = .sf3Ephemeris2 63 ∧ decodeKey 0b100111000 = .sf4Page56Leap ∧
      decodeKey 0b100111001 = .sf4PageNop 57 ∧ decodeKey 0b100110111 = .sf4PageNop 55 ∧
      decodeKey 0b101000001 = .sf5Almanac 1 ∧ decodeKey 0b101011000 = .sf5Almanac 24 ∧
      decodeKey 0b101000000 = .sf5PageNop 0 ∧ decodeKey 0b101011001 = .sf5PageNop 25 ∧
      decodeKey 0b000000111 = .rejectSfid0 7 ∧ decodeKey 0b110000000 = .rejectSfid6 0 ∧
      decodeKey 0b111000000 = .rejectSfid7 0 := by decide

/-- The host's question for the table's "match" words: each DISPATCH row with a nonzero sfid, each CMD row with a fixed
bit. -/
theorem test_table_words :
    [0x040, 0x080, 0x0C0, 0x138, 0x100, 0x141, 0x140, 0x180, 0x1C0].map (decodeTableWord 16) =
        [some (.sf1Clock 0), some (.sf2Ephemeris1 0), some (.sf3Ephemeris2 0), some .sf4Page56Leap,
          some (.sf4PageNop 0), some (.sf5Almanac 1), some (.sf5PageNop 0), some (.rejectSfid6 0),
          some (.rejectSfid7 0)] ∧
      [0x0000, 0x0001, 0x0002, 0x0003, 0x0004].map (decodeTableWord 16) =
        [some (.decodeRaw 0 (Ten.fill 0)), some (.decodeNorm 0 (Ten.fill 0)), some (.readCtx 0),
          some (.reservedOp3 0 0), some (.reservedRsv 0 1 0)] ∧
      decodeTableWord 9 0x000 = some (.rejectSfid0 0) := by decide

/-! ## DECODE_RAW (R140) -/

/-- L1-a, V-N1. -/
theorem test_decodeRaw_plain :
    outcome (runDecodeRaw testParams 0 raw56 start) = ([okLeap 0 18 18 false], [], noWeek 18 true) := by decide

/-- V-N3: the chained stream, words 2 to 8 inverted. -/
theorem test_decodeRaw_chained :
    outcome (runDecodeRaw testParams 0
      ⟨0x22C00012, 0x807D041B, 0xE1FFFFC3, 0xFFFFFFFF, 0xFFFFFFFF, 0xFFFFFFFF, 0xFFFFFFFF, 0xFFFFFFFF, 0xFB66FE28,
        0x04800006⟩ start) = ([okLeap 0 18 18 false], [], noWeek 18 true) := by decide

/-- V-N2, V-N15: word 0 inverted, and corrected over all its 24 bits. -/
theorem test_normalize_word0 :
    normalizeWords testParams { raw56 with w0 := 0x1D3FFFD2 } =
        .ok ({ raw56 with w0 := 0x22C00012 }, n56) ∧
      (normalizeWords testParams { raw56 with w0 := 0x1D000024 }).toOption.map Prod.snd =
        some { n56 with w0 := 0x8BFFFF } := by decide

/-- V-N5, V-N8, V-N9, V-N12, V-N13: parity failures and the lowest failing index. -/
theorem test_parity_failures :
    normalizeWords testParams { raw56 with w3 := 0x7FFFFFC0 } = .error (.parityFailure 3 0x16 0x00) ∧
      normalizeWords testParams { raw56 with w2 := 0x9E00003C } = .error (.parityFailure 2 0x15 0x3C) ∧
      normalizeWords testParams { raw56 with w3 := 0x20000000, w7 := 0x00000400 } =
        .error (.parityFailure 3 0x2A 0x00) ∧
      normalizeWords testParams { raw56 with w9 := 0x04800007 } = .error (.parityFailure 9 0x06 0x07) ∧
      normalizeWords testParams { raw56 with w1 := 0x007D0412 } = .error (.parityFailure 1 0x32 0x12) := by decide

/-- V-N7: the rejection of a failing word 5. -/
theorem test_parity_rejection :
    outcome (runDecodeRaw testParams 0 { raw56 with w5 := 0x00000040 } start) =
      ([.parityFailure 5 0x13 0x00], [.required (.parityFailure 0 5 0x13 0x00)], noWeek 18 false) := by decide

/-- V-N10, L1-c: the preamble is checked before any parity. -/
theorem test_preamble_rejection :
    outcome (runDecodeRaw testParams 0 { raw56 with w0 := 0, w3 := 0x20000000, w7 := 0x00000400 } start) =
        ([.preambleMismatch 0x00], [.required (.preambleMismatch 0 0x00)], noWeek 18 false) ∧
      outcome (runDecodeRaw testParams 0 { raw56 with w0 := 0x15400012 } start) =
        ([.preambleMismatch 0x55], [.required (.preambleMismatch 0 0x55)], noWeek 18 false) := by decide

/-! ## DECODE_NORM (R170) -/

/-- V-I3: an inverted preamble. -/
theorem test_decodeNorm_clock :
    outcome (runDecodeNorm testParams 5 (slots { nClk with w0 := 0x74FFFF }) start) =
      ([.decoded ⟨⟨5, 1001, 1, 0, 0⟩, .clock clockS1a⟩], [], ⟨700, true, 18, false⟩) := by decide

/-- V-I6: BadPreamble before UnknownSubframeID. -/
theorem test_decodeNorm_bad_preamble :
    outcome (runDecodeNorm testParams 0 (slots { n56 with w0 := 0x123456, w1 := 0x01F41C }) start) =
      ([.badPreamble 0x12], [.required (.badPreamble 0 0x12)], noWeek 18 false) := by decide

/-- V-I8a, V-I8b: both flags are bit 6 of the hand-over word. -/
theorem test_header_flags :
    (headerOf 0 { n56 with w1 := 0x01F450 }).alert = 1 ∧ (headerOf 0 { n56 with w1 := 0x01F450 }).antispoof = 1 ∧
      (headerOf 0 { n56 with w1 := 0x01F430 }).alert = 0 ∧ (headerOf 0 { n56 with w1 := 0x01F430 }).antispoof = 0 ∧
      (headerOf 0 { n56 with w1 := 0xFFFF90 }).tow = 131071 := by decide

/-! ## READ_CTX and the reserved headers (R290, R291) -/

/-- V-C1, and V-C5's snapshot. -/
theorem test_readCtx :
    outcome (runReadCtx start) = ([.snapshot ⟨false, none, 18, false⟩], [], noWeek 18 false) ∧
      (runReadCtx { start with ctx := ⟨700, true, 18, false⟩ }).responses = [.snapshot ⟨true, some 700, 18, false⟩] := by
  decide

/-- V-C3: a reserved header's payload is not decoded. -/
theorem test_reservedRsv (s : State) :
    exec (decodeCommand ⟨0x0004, raw56⟩) s = .next { s with responses := s.responses ++ [.refusedCommand 0 1] } := rfl

/-- V-C2. -/
theorem test_reservedOp3 (s : State) :
    exec (decodeCommand ⟨0x0003, raw56⟩) s = .next { s with responses := s.responses ++ [.refusedCommand 3 0] } := rfl

/-! ## The dispatch rows -/

/-- V-S1a. -/
theorem test_sf1Clock :
    outcome (runDecodeRaw testParams 5 rawClk start) =
      ([.decoded ⟨⟨5, 1001, 1, 0, 0⟩, .clock clockS1a⟩], [], ⟨700, true, 18, false⟩) := by decide

/-- V-S1b: the week and the fields of word 2. -/
theorem test_sf1Clock_week :
    let n (w2 : NormWord) : Ten NormWord := { Ten.fill 0 with w0 := 0x8B0000, w1 := 0x000004, w2 := w2 }
    (runClock testParams { start with n := n 0xFFC000 }).ctx = ⟨1023, true, 18, false⟩ ∧
      (runClock testParams { start with n := n 0x003FFF }).ctx = ⟨0, true, 18, false⟩ ∧
      clockOf (n 0x003FFF) = ⟨3, 15, 63, 0x300, 0, 0, 0, 0, 0, 0⟩ := by decide

/-- V-S2a. -/
theorem test_sf2Ephemeris1 :
    outcome (runDecodeRaw testParams 7
      ⟨0x22C00012, 0x007D4206, 0x15448D0B, 0x2AF366B9, 0x2F37BC34, 0x00408012, 0x048D1581, 0x00C12845, 0x037179A2,
        0x07083F09⟩ start) =
      ([.decoded ⟨⟨7, 1002, 2, 0, 0⟩, .ephemerisPart1
        ⟨0x55, 0x1234, 0xABCD, 0x9ABCDEF0, 0x0102, 0x00123456, 0x0304, 0xA10DC5E6, 0x1C20, 1, 0x1F⟩⟩], [],
        noWeek 18 false) := by decide

/-- V-S3a. -/
theorem test_sf3Ephemeris2 :
    outcome (runDecodeRaw testParams 7
      ⟨0x22C00012, 0x007D632B, 0x3FFB8FE1, 0x048D1581, 0x00044981, 0x1E26AF2F, 0x08802054, 0x00000053, 0x3FE8F056,
        0x157FFF11⟩ start) =
      ([.decoded ⟨⟨7, 1003, 3, 0, 0⟩, .ephemerisPart2
        ⟨0xFFEE, 0x3F123456, 0x0011, 0x26789ABC, 0x2200, 0x81000001, 0xFFA3C1, 0x55, 0x3FFF⟩⟩], [],
        noWeek 18 false) := by decide

/-- V-S4h, V-S4i: the clamp, with no pending report. -/
theorem test_sf4Page56Leap_clamp :
    outcome (runDecodeNorm testParams 0 (slots { n56 with w8 := 0x116407, w9 := 0x130000 }) start) =
        ([okLeap 0 17 19 true], [.required (.invalidLeapSeconds 0 17 18)], noWeek 18 false) ∧
      outcome (runDecodeNorm testParams 0 (slots { n56 with w8 := 0x006407, w9 := 0x000000 }) start) =
        ([okLeap 0 0 0 true], [.required (.invalidLeapSeconds 0 0 18)], noWeek 18 false) := by decide

/-- V-S4j, V-S4k, V-S4l: the unsigned floor and the pending report. -/
theorem test_sf4Page56Leap_accept :
    outcome (runDecodeNorm testParams 0 (slots { n56 with w8 := 0x806407, w9 := 0x800000 }) start) =
        ([okLeap 0 128 128 false], [], noWeek 128 true) ∧
      outcome (runDecodeNorm testParams 0 (slots { n56 with w8 := 0xFF6407 }) start) =
        ([okLeap 0 255 18 false], [.required (.leapPending 0 255 18 100 7)], noWeek 255 true) ∧
      outcome (runDecodeNorm testParams 0 (slots { n56 with w8 := 0x136407 }) start) =
        ([okLeap 0 19 18 false], [.required (.leapPending 0 19 18 100 7)], noWeek 19 true) := by decide

/-- V-S4d, V-S4f: page 55 and page 63. -/
theorem test_sf4PageNop :
    outcome (runDecodeNorm testParams 0 (slots { n56 with w2 := 0x770000 }) start) =
        ([.decoded ⟨⟨0, 1000, 4, 0, 0⟩, .pageFrame 55 1 .notYetDecoded⟩], [.required (.pageNotDecoded 0 4 55)],
          noWeek 18 false) ∧
      outcome (runDecodeNorm testParams 0 (slots { n56 with w2 := 0xFF0000 }) start) =
        ([.decoded ⟨⟨0, 1000, 4, 0, 0⟩, .pageFrame 63 3 .notYetDecoded⟩], [.required (.pageNotDecoded 0 4 63)],
          noWeek 18 false) := by decide

/-- The normalized words of V-S5a. -/
def nAlm : Ten NormWord :=
  ⟨0x8B0000, 0x01F614, 0x4312AB, 0x90FFF0, 0x00003F, 0xA10D00, 0x3F1234, 0x800001, 0x00FFFF, 0x000000⟩

/-- The fields of V-S5a. -/
def perSVS5a : PerSV := ⟨0x12AB, 0x90, 0xFFF0, 0x3F, 0xA10D00, 0x3F1234, 0x800001, 0x00FFFF⟩

/-- V-S5a. -/
theorem test_sf5Almanac :
    outcome (runDecodeRaw testParams 9
      ⟨0x22C00012, 0x007D8526, 0x10C4AADB, 0x243FFC28, 0x00000FDE, 0x28434011, 0x0FC48D31, 0x20000079, 0x003FFFF5,
        0x00000000⟩ start) =
      ([.decoded ⟨⟨9, 1004, 5, 0, 0⟩, .almanac 3 1 (.perSV perSVS5a)⟩], [], noWeek 18 false) := by decide

/-- V-S5b2: page 24. -/
theorem test_sf5Almanac_bound :
    outcome (runDecodeNorm testParams 9 (slots { nAlm with w2 := 0x5812AB }) start) =
      ([.decoded ⟨⟨9, 1004, 5, 0, 0⟩, .almanac 24 1 (.perSV perSVS5a)⟩], [], noWeek 18 false) := by decide

/-- V-S5d, V-S5e: pages 25 and 0. -/
theorem test_sf5PageNop :
    outcome (runDecodeNorm testParams 9 (slots { nAlm with w2 := 0x5912AB }) start) =
        ([.decoded ⟨⟨9, 1004, 5, 0, 0⟩, .almanac 25 1 .notDecoded⟩], [.required (.pageNotDecoded 9 5 25)],
          noWeek 18 false) ∧
      outcome (runDecodeNorm testParams 9 (slots { nAlm with w2 := 0x4012AB }) start) =
        ([.decoded ⟨⟨9, 1004, 5, 0, 0⟩, .almanac 0 1 .notDecoded⟩], [.required (.pageNotDecoded 9 5 0)],
          noWeek 18 false) := by decide

/-- V-I5a. -/
theorem test_rejectSfid0 :
    outcome (runDecodeNorm testParams 0 (slots { n56 with w1 := 0x01F400 }) start) =
      ([.unknownSubframeID 0], [.required (.unknownSubframeID 0 0)], noWeek 18 false) := by decide

/-- V-I5b. -/
theorem test_rejectSfid6 :
    outcome (runDecodeNorm testParams 0 (slots { n56 with w1 := 0x01F418 }) start) =
      ([.unknownSubframeID 6], [.required (.unknownSubframeID 0 6)], noWeek 18 false) := by decide

/-- V-I5c. -/
theorem test_rejectSfid7 :
    outcome (runDecodeNorm testParams 0 (slots { n56 with w1 := 0x01F41C }) start) =
      ([.unknownSubframeID 7], [.required (.unknownSubframeID 0 7)], noWeek 18 false) := by decide

/-! ## Witnesses: a state and operands that meet the hypotheses of each obligation that has some -/

/-- A payload whose word 0 has the preamble `pre` at bits 29 to 22, as DECODE_RAW reads it. -/
def rawWith (pre : Byte) : Ten RawWord := { Ten.fill 0 with w0 := 0#2 ++ pre ++ 0#22 }

/-- A payload whose word 0 has the preamble `pre` at bits 23 to 16, as DECODE_NORM reads it, and whose sfid is 1. -/
def normWith (pre : Byte) : Ten RawWord := { Ten.fill 0 with w0 := 0#8 ++ pre ++ 0#16, w1 := 4 }

theorem rawWith_preamble : ∀ pre : Byte, (rawWith pre).w0.extractLsb' 22 8 = pre := by decide

theorem normWith_preamble : ∀ pre : Byte, (normWith pre).w0.extractLsb' 16 8 = pre := by decide

/-- A preamble one bit away from a sentinel is neither of its forms. -/
theorem other_preamble : ∀ x : Byte, x ^^^ 1 ≠ x ∧ x ^^^ 1 ≠ ~~~x := by decide

/-- A sentinel is not its own complement (R2). -/
theorem sentinel_ne_complement : ∀ x : Byte, x ≠ ~~~x := by decide

/-- What an accepted DECODE_NORM of a subframe 1 answers, for any parameters. -/
theorem decodeNorm_sentinel (p : Params) (v : Byte) (s : State) :
    runDecodeNorm p v (normWith p.sentinel) s =
      dispatch p (parseHeader (loadNorm v (normWith p.sentinel) s)) := by
  have h : slice ((normWith p.sentinel).map slotPayload).w0 16 8 = p.sentinel :=
    (by decide : ∀ x : Byte, slice ((normWith x).map slotPayload).w0 16 8 = x) p.sentinel
  unfold runDecodeNorm interpret
  rw [show recheckPreamble p (loadNorm v (normWith p.sentinel) s).n.w0 =
      .ok (loadNorm v (normWith p.sentinel) s).n.w0 from ?_]
  · rfl
  · unfold recheckPreamble
    simp only [loadNorm, h]
    simp [sentinel_ne_complement p.sentinel]

/-- A state at a dispatch: the words of a subframe 1 loaded. -/
def atClock : State := placeKey 0b001000000 State.reset

/-- Reset with a READ_CTX outstanding. -/
def oneCommand : State := { State.reset with pending := [.command ⟨0x0002, Ten.fill 0⟩] }

/-- Reset with a READ_CTX, a reset and a reserved command outstanding. -/
def threeEntries : State :=
  { State.reset with pending := [.command ⟨0x0002, Ten.fill 0⟩, .reset, .command ⟨0x0003, Ten.fill 0⟩] }

theorem test_witness_DecodeOfEncode :
    (Instr.reservedOp3 255 0).wf = true ∧ (Instr.reservedRsv 0 63 3).wf = true ∧ (Instr.sf4PageNop 57).wf = true ∧
      (Instr.sf5Almanac 24).wf = true ∧ (Instr.sf5PageNop 63).wf = true := by decide

theorem test_witness_EncodeOfDecode : (0x0501#16 &&& 0x00FE = 0) ∧ (0xFF00#16 &&& 0x00FE = 0) := by decide

/-- A header for each clause, at both ends of its free fields. -/
theorem test_witness_CommandHeadersDecode :
    0x0000#16 &&& 0x00FF = 0x0000 ∧ 0xFF00#16 &&& 0x00FF = 0x0000 ∧ 0xFF01#16 &&& 0x00FF = 0x0001 ∧
      0xFF02#16 &&& 0x00FF = 0x0002 ∧ 0xFF03#16 &&& 0x00FF = 0x0003 ∧ 0x0004#16 &&& 0x00FC ≠ 0 ∧
      0xFFFF#16 &&& 0x00FC ≠ 0 := by decide

/-- A key for each clause, at the bounds of its pages. -/
theorem test_witness_DispatchMapDecodes :
    (0x07F#9 &&& 0x1C0 = 0x040) ∧ (0x0BF#9 &&& 0x1C0 = 0x080) ∧ (0x0FF#9 &&& 0x1C0 = 0x0C0) ∧
      (0x137#9 &&& 0x1C0 = 0x100 ∧ (0x137#9).extractLsb' 0 6 ≠ 56) ∧
      (0x139#9 &&& 0x1C0 = 0x100 ∧ (0x139#9).extractLsb' 0 6 ≠ 56) ∧
      (0x141#9 &&& 0x1C0 = 0x140 ∧ 1 ≤ (0x141#9).extractLsb' 0 6 ∧ (0x141#9).extractLsb' 0 6 ≤ 24) ∧
      (0x158#9 &&& 0x1C0 = 0x140 ∧ 1 ≤ (0x158#9).extractLsb' 0 6 ∧ (0x158#9).extractLsb' 0 6 ≤ 24) ∧
      (0x140#9 &&& 0x1C0 = 0x140 ∧ (0x140#9).extractLsb' 0 6 = 0) ∧
      (0x159#9 &&& 0x1C0 = 0x140 ∧ 25 ≤ (0x159#9).extractLsb' 0 6) ∧ (0x03F#9 &&& 0x1C0 = 0x000) ∧
      (0x1BF#9 &&& 0x1C0 = 0x180) ∧ (0x1FF#9 &&& 0x1C0 = 0x1C0) := by decide

theorem test_witness_StepRunsTheDecodedCommand :
    oneCommand.serializer = .idle ∧ oneCommand.pending = [] ++ .command ⟨0x0002, Ten.fill 0⟩ :: [] ∧
      Config.order oneCommand.orderTick % oneCommand.pending.length = ([] : List PortEvent).length :=
  ⟨rfl, rfl, Nat.mod_one _⟩

theorem test_witness_StepRunsTheDispatchRow : atClock.serializer = .running := rfl

theorem test_witness_ResetCreatesASession :
    let s : State := { State.reset with pending := [.reset] }
    s.serializer = .idle ∧ s.pending = [] ++ .reset :: [] ∧
      Config.order s.orderTick % s.pending.length = ([] : List PortEvent).length :=
  ⟨rfl, rfl, Nat.mod_one _⟩

theorem test_witness_BlockWithNothingOutstandingWaits :
    State.reset.serializer = .idle ∧ State.reset.pending = [] := ⟨rfl, rfl⟩

/-- Both polarities of word 0; RAW56's words 1 to 9 and V-N4's, whose word 3 is inverted, have their parity. -/
theorem test_witness_DecodeRawNormalizesAndDispatches :
    let flip := fun w : RawWord => if w.getLsbD 30 then w ^^^ 0x3FFFFFC0 else w
    let valid := fun P : Ten RawWord => ∀ i : Fin 10, i ≠ 0 →
      testParams.parity (flip (P.get i)) = (flip (P.get i)).extractLsb' 0 6
    raw56.w0.extractLsb' 22 8 = testParams.sentinel ∧ valid raw56 ∧
      (0x1D3FFFD2#32).extractLsb' 22 8 = ~~~testParams.sentinel ∧ valid { raw56 with w0 := 0x1D3FFFD2, w3 := 0x7FFFFFD6 } := by
  decide

theorem test_witness_PreambleMismatchRejects :
    (rawWith (Config.sentinel ^^^ 1)).w0.extractLsb' 22 8 ≠ Config.sentinel ∧
      (rawWith (Config.sentinel ^^^ 1)).w0.extractLsb' 22 8 ≠ ~~~Config.sentinel := by
  rw [rawWith_preamble]
  exact other_preamble _

/-- V-N13 at word 1, V-N5 at word 3 and V-N12 at word 9. -/
theorem test_witness_ParityFailureRejectsLowestWord :
    let flip := fun w : RawWord => if w.getLsbD 30 then w ^^^ 0x3FFFFFC0 else w
    let fails := fun (P : Ten RawWord) (i : Fin 10) =>
      P.w0.extractLsb' 22 8 = testParams.sentinel ∧ i ≠ 0 ∧
        (∀ j : Fin 10, j ≠ 0 → j < i → testParams.parity (flip (P.get j)) = (P.get j).extractLsb' 0 6) ∧
        testParams.parity (flip (P.get i)) ≠ (P.get i).extractLsb' 0 6
    fails { raw56 with w1 := 0x007D0412 } 1 ∧ fails { raw56 with w3 := 0x7FFFFFC0 } 3 ∧
      fails { raw56 with w9 := 0x04800007 } 9 := by decide

theorem test_witness_DecodeNormDispatches :
    (normWith Config.sentinel).w0.extractLsb' 16 8 = Config.sentinel ∧
      (normWith (~~~Config.sentinel)).w0.extractLsb' 16 8 = ~~~Config.sentinel :=
  ⟨normWith_preamble _, normWith_preamble _⟩

theorem test_witness_BadPreambleRejects :
    (normWith (Config.sentinel ^^^ 1)).w0.extractLsb' 16 8 ≠ Config.sentinel ∧
      (normWith (Config.sentinel ^^^ 1)).w0.extractLsb' 16 8 ≠ ~~~Config.sentinel := by
  rw [normWith_preamble]
  exact other_preamble _

theorem test_witness_ReservedHeadersAreRefused :
    (0xFF03#16).extractLsb' 0 2 = 3 ∧ (0x0004#16).extractLsb' 2 6 ≠ 0 ∧ (0x00FC#16).extractLsb' 2 6 ≠ 0 := by decide

theorem test_witness_OtherSubframe4PagesAreNoOps : (55#6 ≠ 56) ∧ (57#6 ≠ 56) ∧ (0#6 ≠ 56) ∧ (63#6 ≠ 56) := by decide

theorem test_witness_AlmanacPagesDecode : 1 ≤ (1#6).toNat ∧ (1#6).toNat ≤ 24 ∧ 1 ≤ (24#6).toNat ∧ (24#6).toNat ≤ 24 := by
  decide

theorem test_witness_OtherSubframe5PagesAreNoOps : (0#6).toNat = 0 ∧ 25 ≤ (25#6).toNat ∧ 25 ≤ (63#6).toNat := by decide

/-- For NormalizedPreambleIsTheSentinel, NormalizerReturnsThePayload, RawAndDirectInvocationAgree and the first clause of
InversionGivesTheSameSubframe; the answer of V-N1 is the spec's. -/
theorem test_witness_normalized : normalizeWords testParams raw56 = .ok (raw56, n56) := by decide

/-- The second clause of NormalizedPreambleIsTheSentinel: every DECODE_RAW answers a next state. -/
theorem test_witness_decodeRaw_runs (v : Byte) (P : Ten RawWord) (s : State) : ∃ t, exec (.decodeRaw v P) s = .next t :=
  ⟨_, rfl⟩

/-- V-N4: word 3 of RAW56 sent with the other polarity. -/
theorem test_witness_InversionGivesTheSameSubframe :
    let P' : Ten RawWord := { raw56 with w3 := 0x7FFFFFD6 }
    P'.w0 = raw56.w0 ∧
      (∀ i : Fin 10, i ≠ 0 → P'.get i = raw56.get i ∨
        ((P'.get i).getLsbD 30 = !(raw56.get i).getLsbD 30 ∧
          (P'.get i).extractLsb' 6 24 = ~~~(raw56.get i).extractLsb' 6 24)) ∧
      (normalizeWords testParams P').toOption.map Prod.snd = some n56 := by decide

/-- V-N11: bit 30 of word 0. -/
theorem test_witness_WordZeroParityAndFlagAreUnread :
    (0x62C00012#32).extractLsb' 6 24 = raw56.w0.extractLsb' 6 24 := by decide

/-- V-N7: bit 6 of word 5. -/
theorem test_witness_SingleBitFlipFailsAtItsWord :
    let P' : Ten RawWord := { raw56 with w5 := 0x00000040 }
    testParams.parity = referenceParity ∧ (5 : Fin 10) ≠ 0 ∧
      P'.get 5 = raw56.get 5 ^^^ BitVec.twoPow 32 6 ∧ ∀ j : Fin 10, j ≠ 5 → P'.get j = raw56.get j :=
  ⟨rfl, by decide, by decide, by decide⟩

/-- V-I7: every slot's top byte is AB. -/
theorem test_witness_DirectInvocationIgnoresTopBytes :
    ∀ i : Fin 10, ((slots n56).get i).extractLsb' 0 24 = ((n56.map fun d => 0xAB#8 ++ d).get i).extractLsb' 0 24 := by
  decide

theorem test_witness_SvidOnlyLabels (P : Ten RawWord) (s : State) :
    (∃ t t', exec (.decodeRaw 0 P) s = .next t ∧ exec (.decodeRaw 200 P) s = .next t') ∧
      ∃ t t', exec (.decodeNorm 0 P) s = .next t ∧ exec (.decodeNorm 200 P) s = .next t' :=
  ⟨⟨_, _, rfl, rfl⟩, ⟨_, _, rfl, rfl⟩⟩

theorem test_witness_TransientBuffersAreNotRead (s : State) (w : Ten RawWord) (n : Ten NormWord) (h : HeaderRegs) :
    ∃ t t', exec (decodeCommand ⟨0x0500, raw56⟩) s = .next t ∧
      exec (decodeCommand ⟨0x0500, raw56⟩) { s with w := w, n := n, hdr := h } = .next t' := ⟨_, _, rfl, rfl⟩

theorem test_witness_DecodesDoNotReadTheContext (v : Byte) (P : Ten RawWord) (s : State) (c : Context) :
    ∃ t t', exec (.decodeNorm v P) s = .next t ∧ exec (.decodeNorm v P) { s with ctx := c } = .next t' := ⟨_, _, rfl, rfl⟩

theorem test_witness_CommandsAreIdempotentForTheContext (s : State) :
    ∃ t u, exec (decodeCommand ⟨0x0501, slots nClk⟩) s = .next t ∧
      exec (decodeCommand ⟨0x0501, slots nClk⟩) t = .next u := ⟨_, _, rfl, rfl⟩

/-- For OnlyTwoDecodesWriteTheContext and WeekKnownFollowsClockDecodes: a step that sets the week, and one that keeps it. -/
theorem test_witness_week_step :
    (∃ t, step atClock = .next t ∧ atClock.ctx.weekKnown = false ∧ t.ctx.weekKnown = true) ∧
      let s : State := { State.reset with ctx := ⟨700, true, 18, false⟩ }
      s.ctx.weekKnown = true ∧ step s = .next s := ⟨⟨_, rfl, rfl, rfl⟩, rfl, rfl⟩

theorem test_witness_RejectionsWriteNoContext (s : State) :
    ∃ t r, exec (.reservedOp3 0 0) s = .next t ∧ Answers s t r ∧ r.status ≠ 0 :=
  ⟨_, .refusedCommand 3 0, rfl, rfl, by decide⟩

/-- An answer for each clause that a dispatch row or a reserved header gives; the two preamble clauses are those of
PreambleMismatchRejects and BadPreambleRejects, the parity one that of test_parity_rejection. -/
theorem test_witness_EachRejectionHasItsRaiser (s : State) :
    (∃ t, exec (.rejectSfid7 0) s = .next t ∧ Answers s t (.unknownSubframeID 7)) ∧
      ∃ t, exec (.reservedRsv 0 1 2) s = .next t ∧ Answers s t (.refusedCommand 2 1) := ⟨⟨_, rfl, rfl⟩, ⟨_, rfl, rfl⟩⟩

theorem test_witness_ResultHeaderIsTheSubframes :
    ∃ t d, exec (decodeCommand ⟨0x0501, normWith Config.sentinel⟩) State.reset = .next t ∧
      Answers State.reset t (.decoded d) := by
  have h := decodeNorm_sentinel Config.build 5 State.reset
  exact ⟨_, ⟨⟨5, 0, 1, 0, 0⟩, .clock ⟨0, 0, 0, 0, 0, 0, 0, 0, 0, 0⟩⟩, congrArg Host.Outcome.next h, rfl⟩

theorem test_witness_StepKeepsTheLeapInvariant : LeapInv State.reset ∧ step State.reset = .next State.reset :=
  ⟨⟨BitVec.le_refl _, fun _ => rfl⟩, rfl⟩

theorem test_witness_AcceptedLeapMayGoDown :
    let m : Ten NormWord := { n56 with w8 := 0x146407 }
    let n : Ten NormWord := { n56 with w8 := 0x136407 }
    testParams.baseline = 18 ∧ m.w8.extractLsb' 16 8 = 20#8 ∧ n.w8.extractLsb' 16 8 = 19#8 := by decide

theorem test_witness_NoStepLeavesACommandHalfDone :
    (∃ t, step atClock = .next t ∧ atClock.serializer = .running) ∧ Quiescent State.reset ∧
      step State.reset = .next State.reset := ⟨⟨_, rfl, rfl⟩, ⟨rfl, rfl, rfl, rfl⟩, rfl⟩

theorem test_witness_OneResponsePerCommand : oneCommand.serializer = .idle ∧ ∃ t, step oneCommand = .next t :=
  ⟨rfl, _, rfl⟩

/-- For ThePortIsDrained and OutstandingCommandsAreSerialized. -/
theorem test_witness_outstanding : threeEntries.serializer = .idle ∧ threeEntries.pending.length = 3 ∧
    threeEntries.pending.countP isCommand = 2 := by decide

theorem test_witness_AnyOutstandingEntryMayBeNext : 2 < threeEntries.pending.length := by decide

/-! ## The host's placing -/

/-- A placed command is the one outstanding entry and a step answers it. -/
theorem test_placed_command (s : State) :
    ∃ t, step (s.withFetchWord 16 0x0003) = .next t ∧ t.responses = s.responses ++ [.refusedCommand 3 0] := ⟨_, rfl, rfl⟩

/-- A placed dispatch key runs its row. -/
theorem test_placed_key :
    ∃ t, step (State.reset.withFetchWord 16 0x100) = .next t ∧
      t.responses = [.decoded ⟨⟨0, 0, 4, 0, 0⟩, .pageFrame 0 0 .notYetDecoded⟩] := ⟨_, rfl, rfl⟩

end Sys2Proof.Tests
end

