-- ==== Sys2Proof/Proofs/SvidOnlyLabels.lean ====
section
/-! PROOF of O40 (R6). Loading the same words under another `svid` changes one header register. That change commutes with
every operation up to the end of the decode, and there it reaches only the response's header and the report. -/

namespace Sys2Proof.Machine

/-- The state with another `svid` in the header registers. -/
def withSvid (v : Byte) (s : State) : State := { s with hdr := { s.hdr with svid := v } }

@[simp] theorem withSvid_hdr (v : Byte) (s : State) : (withSvid v s).hdr = { s.hdr with svid := v } := rfl
@[simp] theorem withSvid_w (v : Byte) (s : State) : (withSvid v s).w = s.w := rfl
@[simp] theorem withSvid_n (v : Byte) (s : State) : (withSvid v s).n = s.n := rfl

/-- Two outcomes of a decode from `s` that differ at most in the response's `svid` and in the reports. -/
def SameButForSvid (s t t' : State) : Prop :=
  ∃ r r', Answers s t r ∧ Answers s t' r' ∧ unlabelled r = unlabelled r' ∧ t.ctx = t'.ctx ∧ t.pending = t'.pending

theorem raise_withSvid (p : Params) (x : Rejection) (v : Byte) (s : State) :
    SameButForSvid s (raise p x s) (raise p x (withSvid v s)) :=
  ⟨_, _, rfl, rfl, rfl, rfl, rfl⟩

/-- The two decodes may report differently (`d`, `d'`) and write the same context `c`. -/
theorem accept_withSvid (p : Params) (d d' : Option Condition) (y : Variant) (c : Context) (v : Byte) (s : State) :
    SameButForSvid s (accept p d y (setContext c s)) (accept p d' y (setContext c (withSvid v s))) :=
  ⟨_, _, rfl, rfl, rfl, rfl, rfl⟩

/-- LEAP_SANITY uses `svid` in its report only (R242, R243). -/
theorem leapSanity_svid (p : Params) (v v' : Byte) (f : LeapFields) (c : Context) :
    (leapSanity p v f c).ctx = (leapSanity p v' f c).ctx ∧
      (leapSanity p v f c).clamped = (leapSanity p v' f c).clamped := by
  unfold leapSanity
  split_ifs <;> exact ⟨rfl, rfl⟩

theorem runLeap56_withSvid (p : Params) (v : Byte) (s : State) :
    SameButForSvid s (runLeap56 p s) (runLeap56 p (withSvid v s)) := by
  obtain ⟨hctx, hclamped⟩ := leapSanity_svid p s.hdr.svid v (leapFieldsOf s.n) s.ctx
  unfold runLeap56
  simp only [hctx, hclamped]
  exact accept_withSvid p _ _ _ _ v s

/-- The dispatch goes by `sfid` and `page_id`, so both decodes run the same row (R171, R240, R270). -/
theorem dispatch_withSvid (p : Params) (v : Byte) (s : State) :
    SameButForSvid s (dispatch p s) (dispatch p (withSvid v s)) := by
  rcases dispatch_cases p s with ⟨h, e⟩ | ⟨h, e⟩ | ⟨h, e⟩ | ⟨h, g, e⟩ | ⟨h, g, e⟩ | ⟨h, g, e⟩ | ⟨h, g, e⟩ | ⟨h, e⟩ <;>
    rw [e] <;> simp only [dispatch, page4, page5, withSvid_hdr, *, and_self, reduceIte]
  · exact accept_withSvid p _ _ _ _ v s
  · exact accept_withSvid p _ _ _ s.ctx v s
  · exact accept_withSvid p _ _ _ s.ctx v s
  · exact runLeap56_withSvid p v s
  · exact accept_withSvid p _ _ _ s.ctx v s
  · exact accept_withSvid p _ _ _ s.ctx v s
  · exact accept_withSvid p _ _ _ s.ctx v s
  · exact raise_withSvid p _ v s

/-- The preamble re-check does not read `svid`, and the header parsed keeps it (R172, R173). -/
theorem interpret_withSvid (p : Params) (v : Byte) (s : State) :
    SameButForSvid s (interpret p s) (interpret p (withSvid v s)) := by
  simp only [interpret, withSvid_n]
  cases recheckPreamble p s.n.w0 with
  | error x => exact raise_withSvid p x v s
  | ok n0 => exact dispatch_withSvid p v (parseHeader (replaceWord0 n0 s))

/-- The Normalizer does not read `svid` (R140). -/
theorem normalizeAndInterpret_withSvid (p : Params) (v : Byte) (s : State) :
    SameButForSvid s (normalizeAndInterpret p s) (normalizeAndInterpret p (withSvid v s)) := by
  simp only [normalizeAndInterpret, withSvid_w]
  cases normalizeWords p s.w with
  | error x => exact raise_withSvid p x v s
  | ok c => exact interpret_withSvid p v (storeNormalized c.1 c.2 s)

/-- Settles O40: a command loaded with `v'` is the one loaded with `v`, its `svid` register replaced. -/
theorem svidOnlyLabels : Obligations.SvidOnlyLabels := by
  rintro v v' P s t t' (⟨h, h'⟩ | ⟨h, h'⟩) <;> cases h <;> cases h'
  · exact normalizeAndInterpret_withSvid Config.build v' (loadRaw v P s)
  · exact interpret_withSvid Config.build v' (loadNorm v P s)

end Sys2Proof.Machine
end

/-! PROOFS of O44, O49, O53, O52, O11, O50, O51 (10_state.md): what every step keeps of the registers. The invariants of
the context all come from one inversion of the step, `step_context_cases`, and one lemma for each way of writing it. -/

namespace Sys2Proof.Machine

/-- The writes of a command are the same from any state with the same context: taking the command off the port is no
part of them. -/
theorem ContextEffect.of_ctx_eq {s' s t : State} {r : Response} (h : ContextEffect s' t r) (hc : s'.ctx = s.ctx) :
    ContextEffect s t r := by
  rcases h with h | ⟨hd, c, e, w, h⟩ | ⟨hd, d, lp, lsf, wnlsf, dn, k, e, v, f, h⟩
  · exact .kept (h.trans hc)
  · exact .week hd c e w (hc ▸ h)
  · exact .leap hd d lp lsf wnlsf dn k e v f (hc ▸ h)

/-- What a step can do to the context: wait, answer a command and write only as its response says, or take a reset. -/
theorem step_context_cases {s t : State} (h : step s = .next t) :
    t = s ∨ (∃ r, Answers s t r ∧ ContextEffect s t r) ∨
      (s.serializer = .idle ∧ (∃ u, takeNext Config.build s = some (.reset, u)) ∧
        t.ctx = contextAtReset Config.baseline) := by
  rcases step_cases h with ⟨_, hx⟩ | ⟨_, _, e⟩ | ⟨_, q, u, hu, hx⟩ | ⟨hi, u, hu, rfl⟩
  · obtain ⟨r, ha, hc, -, -⟩ := exec_effect hx
    exact .inr (.inl ⟨r, ha, hc⟩)
  · exact .inl e
  · obtain ⟨r, ha, hc, -, -⟩ := exec_effect hx
    obtain ⟨k, -, rfl⟩ := takeNext_some hu
    exact .inr (.inl ⟨r, ha, hc.of_ctx_eq rfl⟩)
  · exact .inr (.inr ⟨hi, ⟨u, hu⟩, rfl⟩)

/-! ## The two writers of the context -/

/-- LEAP_SANITY writes the two leap registers only (R34, R242). -/
theorem leapSanity_frame (p : Params) (v : Byte) (f : LeapFields) (c : Context) :
    (leapSanity p v f c).ctx =
      { c with leapSeconds := (leapSanity p v f c).ctx.leapSeconds
               leapSecondValid := (leapSanity p v f c).ctx.leapSecondValid } := by
  rcases leapSanity_cases p v f c with ⟨_, e⟩ | ⟨_, e⟩ <;> rw [e]

/-- LEAP_SANITY leaves the register at or above the floor, and at it where it clears the flag (R35, R242). -/
theorem leapSanity_floor (p : Params) (v : Byte) (f : LeapFields) (c : Context) :
    p.baseline ≤ (leapSanity p v f c).ctx.leapSeconds ∧
      ((leapSanity p v f c).ctx.leapSecondValid = false → (leapSanity p v f c).ctx.leapSeconds = p.baseline) := by
  rcases leapSanity_cases p v f c with ⟨_, e⟩ | ⟨hle, e⟩ <;> rw [e]
  · exact ⟨BitVec.le_refl _, fun _ => rfl⟩
  · exact ⟨hle, nofun⟩

/-- The page-56 decode stores a leap that is not below the floor (R242). -/
theorem runLeap56_leapSeconds {p : Params} {s : State} (h : p.baseline ≤ slice s.n.w8 16 8) :
    (runLeap56 p s).ctx.leapSeconds = slice s.n.w8 16 8 := by
  have hctx : (runLeap56 p s).ctx = (leapSanity p s.hdr.svid (leapFieldsOf s.n) s.ctx).ctx := rfl
  rcases leapSanity_cases p s.hdr.svid (leapFieldsOf s.n) s.ctx with ⟨hlt, _⟩ | ⟨_, e⟩
  · exact absurd hlt (BitVec.not_lt.mpr h)
  · rw [hctx, e]; rfl

/-! ## The claims -/

/-- Settles O44: the responses of the two writers are the two the statement names. -/
theorem onlyTwoDecodesWriteTheContext : Obligations.OnlyTwoDecodesWriteTheContext := by
  intro s t h
  rcases step_context_cases h with rfl | ⟨r, ha, hc⟩ | ⟨hi, hu, _⟩
  · exact .inl rfl
  · rcases hc with hc | ⟨hd, c, rfl, w, hc⟩ | ⟨hd, d, lp, lsf, wnlsf, dn, k, rfl, v, f, hc⟩
    · exact .inl hc
    · exact .inr (.inl ⟨hd, c, ha, by rw [hc]; rfl⟩)
    · exact .inr (.inr (.inl ⟨hd, d, lp, lsf, wnlsf, dn, k, ha, hc ▸ leapSanity_frame _ v f s.ctx⟩))
  · exact .inr (.inr (.inr ⟨hi, hu⟩))

/-- Settles O50: the flag is clear and the register is the baseline. -/
theorem resetHasTheLeapInvariant : Obligations.ResetHasTheLeapInvariant :=
  ⟨BitVec.le_refl _, fun _ => rfl⟩

/-- Settles O49: LEAP_SANITY and a reset establish the invariant whatever was before, and nothing else writes the
registers. -/
theorem stepKeepsTheLeapInvariant : Obligations.StepKeepsTheLeapInvariant := by
  intro s t hs h
  unfold LeapInv at hs ⊢
  rcases step_context_cases h with rfl | ⟨r, _, hc⟩ | ⟨_, _, hc⟩
  · exact hs
  · rcases hc with hc | ⟨_, _, _, w, hc⟩ | ⟨_, _, _, _, _, _, _, _, v, f, hc⟩ <;> rw [hc]
    · exact hs
    · exact hs
    · exact leapSanity_floor Config.build v f s.ctx
  · rw [hc]
    exact resetHasTheLeapInvariant

/-- Settles O53: a decode and a reset discard the buffers, and any other command or a wait leaves them as they were. -/
theorem noStepLeavesACommandHalfDone : Obligations.NoStepLeavesACommandHalfDone := by
  intro s t h
  have untouched : s.serializer = .idle → s.serializer = .running ∨ Quiescent s → Quiescent s := by
    rintro hi (hr | hq)
    · cases hi.symm.trans hr
    · exact hq
  rcases step_cases h with ⟨_, hx⟩ | ⟨hi, _, rfl⟩ | ⟨hi, q, u, hu, hx⟩ | ⟨_, u, _, rfl⟩
  · have hq := dispatchRow_quiescent hx
    exact ⟨hq.1, fun _ => hq⟩
  · exact ⟨hi, untouched hi⟩
  · rcases command_transient hx with hq | ⟨x, rfl⟩
    · exact ⟨hq.1, fun _ => hq⟩
    · obtain ⟨k, -, rfl⟩ := takeNext_some hu
      exact ⟨hi, untouched hi⟩
  · exact ⟨rfl, fun _ => ⟨rfl, rfl, rfl, rfl⟩⟩

/-- What a step can do to `week_known`: keep it, set it and answer with a Clock, or clear it at a reset (R31, R40). -/
theorem step_weekKnown_cases {s t : State} (h : step s = .next t) :
    t.ctx.weekKnown = s.ctx.weekKnown ∨
      (t.ctx.weekKnown = true ∧ ∃ h c, Answers s t (.decoded ⟨h, .clock c⟩)) ∨
      (t.ctx.weekKnown = false ∧ s.serializer = .idle ∧ ∃ u, takeNext Config.build s = some (.reset, u)) := by
  rcases step_context_cases h with rfl | ⟨r, ha, hc⟩ | ⟨hi, hu, hc⟩
  · exact .inl rfl
  · rcases hc with hc | ⟨hd, c, rfl, w, hc⟩ | ⟨_, _, _, _, _, _, _, _, v, f, hc⟩
    · exact .inl (congrArg Context.weekKnown hc)
    · exact .inr (.inl ⟨congrArg Context.weekKnown hc, hd, c, ha⟩)
    · exact .inl (by rw [hc, leapSanity_frame])
  · exact .inr (.inr ⟨congrArg Context.weekKnown hc, hi, hu⟩)

/-- Settles O52: of the three ways only the Clock sets the flag, and only the reset clears it. -/
theorem weekKnownFollowsClockDecodes : Obligations.WeekKnownFollowsClockDecodes := by
  intro s t h
  rcases step_weekKnown_cases h with hk | ⟨hk, hclock⟩ | ⟨hk, hreset⟩ <;> rw [hk]
  · exact ⟨.inl, fun hf ht => absurd (hf.symm.trans ht) nofun⟩
  · exact ⟨fun _ => .inl rfl, fun _ _ => hclock⟩
  · exact ⟨fun _ => .inr hreset, fun _ => nofun⟩

/-- Settles O11: the reset values of R40, read off `initialState`. -/
theorem resetValues : Obligations.ResetValues := ⟨rfl, rfl, rfl, rfl, rfl, rfl, rfl⟩

/-- Settles O51: neither leap is below 18, so each is stored, whatever the register held. -/
theorem acceptedLeapMayGoDown : Obligations.AcceptedLeapMayGoDown := by
  intro p s m n hb hm hn
  have stored : ∀ (s : State) (l : Byte), slice s.n.w8 16 8 = l → (18 : Byte) ≤ l →
      (runLeap56 p s).ctx.leapSeconds = l := by
    rintro s _ rfl hl
    exact runLeap56_leapSeconds (hb ▸ hl)
  exact ⟨stored _ 20 hm (by decide), stored _ 19 hn (by decide)⟩

end Sys2Proof.Machine

/-! PROOF of O41 (R36). A decode loads one buffer and `svid`, overwrites the rest before it reads it, and discards all at
its end: from states that differ only in the transient registers it ends in the same state. -/

namespace Sys2Proof.Machine

/-- The state with other header registers. -/
def withHeader (h : HeaderRegs) (s : State) : State := { s with hdr := h }

@[simp] theorem withHeader_n (h : HeaderRegs) (s : State) : (withHeader h s).n = s.n := rfl

/-- A rejection reads no header register but `svid` (R313). -/
theorem raise_withHeader (p : Params) (x : Rejection) (h : HeaderRegs) (s : State) (hv : h.svid = s.hdr.svid) :
    raise p x (withHeader h s) = raise p x s := by
  simp only [raise, withHeader, hv]
  exact endDecode_transient _ _ _ _ s.serializer s.w s.n h

/-- INTERPRET reads no header register but `svid` before it parses them (R171, R173). -/
theorem interpret_withHeader (p : Params) (h : HeaderRegs) (s : State) (hv : h.svid = s.hdr.svid) :
    interpret p (withHeader h s) = interpret p s := by
  have parsed : ∀ n0, parseHeader (replaceWord0 n0 (withHeader h s)) = parseHeader (replaceWord0 n0 s) := by
    intro n0
    simp only [parseHeader, replaceWord0, withHeader, hv]
  unfold interpret
  simp only [withHeader_n, parsed]
  cases recheckPreamble p s.n.w0 with
  | error x => exact raise_withHeader p x h s hv
  | ok n0 => rfl

/-- DECODE_RAW loads `W` and `svid`, and the Normalizer stores `N` before the Interpreter reads it (R140, R146). -/
theorem runDecodeRaw_transient (p : Params) (v : Byte) (P : Ten RawWord) (s : State) (w : Ten RawWord)
    (n : Ten NormWord) (h : HeaderRegs) :
    runDecodeRaw p v P { s with w := w, n := n, hdr := h } = runDecodeRaw p v P s := by
  unfold runDecodeRaw normalizeAndInterpret
  simp only [loadRaw_w]
  cases normalizeWords p P with
  | error x => rfl
  | ok c => exact interpret_withHeader p { h with svid := v } (storeNormalized c.1 c.2 (loadRaw v P s)) rfl

/-- DECODE_NORM loads `N` and `svid`, and never reads `W` (R88, R170). -/
theorem runDecodeNorm_transient (p : Params) (v : Byte) (P : Ten RawWord) (s : State) (w : Ten RawWord)
    (n : Ten NormWord) (h : HeaderRegs) :
    runDecodeNorm p v P { s with w := w, n := n, hdr := h } = runDecodeNorm p v P s := by
  have hloaded : loadNorm v P { s with w := w, n := n, hdr := h } =
      withRaw w (withHeader { h with svid := v } (loadNorm v P s)) := rfl
  unfold runDecodeNorm
  rw [hloaded, interpret_withRaw]
  exact interpret_withHeader p _ _ rfl

/-- Settles O41: the decodes end in one state, and the other commands read only the context. -/
theorem transientBuffersAreNotRead : Obligations.TransientBuffersAreNotRead := by
  intro r s t t' w n h ht ht'
  unfold decodeCommand at ht ht'
  simp only at ht ht'
  split_ifs at ht ht' <;> cases ht <;> cases ht'
  · rfl
  · exact congrArg visible (runDecodeRaw_transient _ _ _ s w n h).symm
  · exact congrArg visible (runDecodeNorm_transient _ _ _ s w n h).symm
  · rfl
  · rfl

end Sys2Proof.Machine

/-! PROOFS of O8, O57, O56 (20_memory.md R63, R65): the serializer takes one outstanding entry and serves it whole.
Serving an entry neither reads nor writes the request port (`serve_setPort`), so a run that drains the port is a fold of
`serve` over the entries in the order in which they were taken (`run_drains`). -/

namespace Sys2Proof.Machine

/-! ## The serializer's choice -/

/-- One formula for the choice: a lone entry is the index 0 that any number leaves modulo 1. -/
theorem chosenIndex_eq_mod (p : Params) (s : State) :
    chosenIndex p s = p.order s.orderTick % s.pending.length := by
  unfold chosenIndex
  split
  · simp [*, Nat.mod_one]
  · rfl

theorem takeNext_of_chosenIndex {p : Params} {s : State} {k : Nat} (h : chosenIndex p s = k)
    (hk : k < s.pending.length) :
    takeNext p s = some (s.pending[k], setPort (s.pending.eraseIdx k) (s.orderTick + 1) s) := by
  subst h
  simp only [takeNext, List.getElem?_eq_getElem hk]

/-- The entry taken, with the outstanding entries written as a list around it. -/
theorem takeNext_of_split {p : Params} {s : State} {e : PortEvent} {before after : List PortEvent}
    (hp : s.pending = before ++ e :: after) (h : p.order s.orderTick % s.pending.length = before.length) :
    takeNext p s = some (e, setPort (before ++ after) (s.orderTick + 1) s) := by
  have hk : before.length < s.pending.length := by simp [hp]
  rw [takeNext_of_chosenIndex ((chosenIndex_eq_mod p s).trans h) hk]
  simp [hp, List.eraseIdx_append_of_length_le]

/-- Settles O57: a choice that is `k` at every turn takes the entry at `k`. -/
theorem anyOutstandingEntryMayBeNext : Obligations.AnyOutstandingEntryMayBeNext := by
  intro s k hk
  have hchoice : chosenIndex { Config.build with order := fun _ => k } s = k :=
    (chosenIndex_eq_mod _ s).trans (Nat.mod_eq_of_lt hk)
  exact ⟨_, _, takeNext_of_chosenIndex hchoice hk⟩

/-! ## One step -/

theorem step_of_command_taken {s u : State} {r : Request} (hi : s.serializer = .idle)
    (h : takeNext Config.build s = some (.command r, u)) : step s = exec (decodeCommand r) u := by
  simp only [step, hi, h]

theorem step_of_reset_taken {s u : State} (hi : s.serializer = .idle)
    (h : takeNext Config.build s = some (.reset, u)) : step s = .next (resetSession Config.build u) := by
  simp only [step, hi, h]

/-- Settles O8: the hypothesis on the choice names the index the serializer takes. -/
theorem stepRunsTheDecodedCommand : Obligations.StepRunsTheDecodedCommand := by
  intro s r before after hi hp hchoice
  exact step_of_command_taken hi (takeNext_of_split hp hchoice)

/-- Every instruction goes on to a next state (R307). -/
theorem exec_next (i : Instr) (s : State) : ∃ t, exec i s = .next t := by
  cases i <;> exact ⟨_, rfl⟩

theorem serve_command {r : Request} {s t : State} (h : exec (decodeCommand r) s = .next t) :
    serve s (.command r) = t := by
  simp only [serve, h]

/-- A step serves the entry it takes. -/
theorem step_of_takeNext {s u : State} {e : PortEvent} (hi : s.serializer = .idle)
    (h : takeNext Config.build s = some (e, u)) : step s = .next (serve u e) := by
  cases e with
  | command r =>
    obtain ⟨t, ht⟩ := exec_next (decodeCommand r) u
    rw [step_of_command_taken hi h, serve_command ht, ht]
  | reset => exact step_of_reset_taken hi h

/-- Serving an entry neither reads nor writes the request port. -/
theorem serve_setPort (l : List PortEvent) (o : Nat) (s : State) (e : PortEvent) :
    serve (setPort l o s) e = setPort l o (serve s e) := by
  cases e with
  | command r =>
    obtain ⟨t, ht⟩ := exec_next (decodeCommand r) s
    rw [serve_command ht, serve_command (exec_setPort _ l o ht)]
  | reset => rfl

theorem foldl_serve_setPort (l : List PortEvent) (o : Nat) (es : List PortEvent) (s : State) :
    es.foldl serve (setPort l o s) = setPort l o (es.foldl serve s) :=
  List.foldl_hom (setPort l o) fun s e => serve_setPort l o s e

/-- No entry is left half served (R39, R63). -/
theorem serve_idle {s : State} (hi : s.serializer = .idle) (e : PortEvent) : (serve s e).serializer = .idle := by
  cases e with
  | command r =>
    obtain ⟨t, ht⟩ := exec_next (decodeCommand r) s
    rw [serve_command ht]
    rcases command_transient ht with hq | ⟨x, rfl⟩
    · exact hq.1
    · exact hi
  | reset => rfl

/-- With something outstanding, a step is the serving of one entry, which leaves the port. -/
theorem step_serves {s : State} (hi : s.serializer = .idle) (hne : s.pending ≠ []) :
    ∃ (k : Nat) (hk : k < s.pending.length),
      step s = .next (setPort (s.pending.eraseIdx k) (s.orderTick + 1) (serve s s.pending[k])) := by
  have hk := chosenIndex_lt Config.build hne
  exact ⟨_, hk, by rw [step_of_takeNext hi (takeNext_of_chosenIndex rfl hk), serve_setPort]⟩

/-! ## The run that drains the port -/

/-- As many steps as entries are outstanding serve each of them once, in some order, and empty the port. -/
theorem run_drains (n : Nat) {s : State} (hi : s.serializer = .idle) (hn : s.pending.length = n) :
    ∃ order : List PortEvent, order.Perm s.pending ∧
      ∃ o, Sys2Proof.core.run n s = .next (setPort [] o (order.foldl serve s)) := by
  induction n generalizing s with
  | zero =>
    have hp : s.pending = [] := List.length_eq_zero_iff.mp hn
    have hs : setPort [] s.orderTick s = s := by rw [← hp]; rfl
    exact ⟨[], hp ▸ .nil, s.orderTick, congrArg Host.Outcome.next hs.symm⟩
  | succ n ih =>
    obtain ⟨k, hk, hstep⟩ := step_serves hi (List.ne_nil_of_length_eq_add_one hn)
    have hlen : (s.pending.eraseIdx k).length = n := by rw [List.length_eraseIdx_of_lt hk, hn]; rfl
    obtain ⟨order, hperm, o, hrun⟩ :=
      ih (s := setPort (s.pending.eraseIdx k) (s.orderTick + 1) (serve s s.pending[k])) (serve_idle hi _) hlen
    refine ⟨s.pending[k] :: order, (hperm.cons _).trans (List.getElem_cons_eraseIdx_perm hk), o, ?_⟩
    rw [core_run_succ n hstep, hrun, foldl_serve_setPort]
    rfl

/-- Settles O56: the order is the one in which the run takes the entries, and the port is none of the three outputs. -/
theorem outstandingCommandsAreSerialized : Obligations.OutstandingCommandsAreSerialized := by
  intro s hi
  obtain ⟨order, hperm, o, hrun⟩ := run_drains _ hi rfl
  exact ⟨order, hperm, _, hrun, rfl, rfl, rfl⟩

end Sys2Proof.Machine

/-! PROOFS of O42, O43 (20_memory.md R67, R69). The words and the `svid` of a decode command fix how it ends, whatever
state it runs on (`decode_ending`): its response, its required report, and the values it writes to the context. -/

namespace Sys2Proof.Machine

/-- What a decode writes to the context: nothing, the week pair, or the leap pair (R34). -/
inductive ContextWrite where
  | keep
  | week (w : BitVec 10)
  | leap (seconds : Byte) (valid : Bool)

/-- The context after the write. -/
def ContextWrite.apply : ContextWrite → Context → Context
  | .keep, c => c
  | .week w, c => writeWeek w c
  | .leap seconds valid, c => { c with leapSeconds := seconds, leapSecondValid := valid }

/-- A second write of the same values changes nothing. -/
@[simp] theorem ContextWrite.apply_apply (x : ContextWrite) (c : Context) : x.apply (x.apply c) = x.apply c := by
  cases x <;> rfl

/-- The week pair is written with the same values over every context, or kept over every context. -/
theorem ContextWrite.week_cases (x : ContextWrite) (c c' : Context) :
    ((x.apply c').gpsWeek = (x.apply c).gpsWeek ∧ (x.apply c').weekKnown = (x.apply c).weekKnown) ∨
      ((x.apply c).gpsWeek = c.gpsWeek ∧ (x.apply c).weekKnown = c.weekKnown ∧
        (x.apply c').gpsWeek = c'.gpsWeek ∧ (x.apply c').weekKnown = c'.weekKnown) := by
  cases x with
  | keep => exact .inr ⟨rfl, rfl, rfl, rfl⟩
  | week w => exact .inl ⟨rfl, rfl⟩
  | leap l v => exact .inr ⟨rfl, rfl, rfl, rfl⟩

/-- So is the leap pair. -/
theorem ContextWrite.leap_cases (x : ContextWrite) (c c' : Context) :
    ((x.apply c').leapSeconds = (x.apply c).leapSeconds ∧
        (x.apply c').leapSecondValid = (x.apply c).leapSecondValid) ∨
      ((x.apply c).leapSeconds = c.leapSeconds ∧ (x.apply c).leapSecondValid = c.leapSecondValid ∧
        (x.apply c').leapSeconds = c'.leapSeconds ∧ (x.apply c').leapSecondValid = c'.leapSecondValid) := by
  cases x with
  | keep => exact .inr ⟨rfl, rfl, rfl, rfl⟩
  | week w => exact .inr ⟨rfl, rfl, rfl, rfl⟩
  | leap l v => exact .inl ⟨rfl, rfl⟩

/-- How a decode ends: its context write, its required report, its response. -/
structure Ending where
  write    : ContextWrite
  report   : Option Condition
  response : Response

/-- The state after a decode that ends so. -/
def Ending.apply (e : Ending) (p : Params) (s : State) : State :=
  endDecode p e.report e.response (setContext (e.write.apply s.ctx) s)

@[simp] theorem Ending.apply_ctx (e : Ending) (p : Params) (s : State) : (e.apply p s).ctx = e.write.apply s.ctx := rfl

/-- LEAP_SANITY compares the broadcast value with the baseline, not with the register (R242). -/
theorem leapSanity_write (p : Params) (v : Byte) (f : LeapFields) :
    ∃ (l : Byte) (b k : Bool) (d : Option Condition),
      ∀ c, leapSanity p v f c = ⟨(ContextWrite.leap l b).apply c, k, d⟩ := by
  by_cases h : f.leap < p.baseline
  · exact ⟨_, _, _, _, fun c => if_pos h⟩
  · exact ⟨_, _, _, _, fun c => if_neg h⟩

theorem runLeap56_ending (p : Params) (h : HeaderRegs) (n : Ten NormWord) :
    ∃ e : Ending, ∀ s : State, runLeap56 p { s with hdr := h, n := n } = e.apply p s := by
  obtain ⟨l, b, k, d, hsanity⟩ := leapSanity_write p h.svid (leapFieldsOf n)
  refine ⟨⟨.leap l b, d, .decoded ⟨resultHeader h, .pageFrame 56 h.dataId
    (.leapSecond (leapFieldsOf n).leap (leapFieldsOf n).lsf (leapFieldsOf n).wnlsf (leapFieldsOf n).dn k)⟩⟩,
    fun s => ?_⟩
  simp only [runLeap56, hsanity]
  rfl

/-- The header registers and the words fix the arm of the dispatch and how it ends (R171, R174). -/
theorem dispatch_ending (p : Params) (h : HeaderRegs) (n : Ten NormWord) :
    ∃ e : Ending, ∀ s : State, dispatch p { s with hdr := h, n := n } = e.apply p s := by
  simp only [dispatch, page4, page5]
  split_ifs
  · exact ⟨⟨.week (weekOf n), none, .decoded ⟨resultHeader h, .clock (clockOf n)⟩⟩, fun _ => rfl⟩
  · exact ⟨⟨.keep, none, .decoded ⟨resultHeader h, .ephemerisPart1 (ephemeris1Of n)⟩⟩, fun _ => rfl⟩
  · exact ⟨⟨.keep, none, .decoded ⟨resultHeader h, .ephemerisPart2 (ephemeris2Of n)⟩⟩, fun _ => rfl⟩
  · exact runLeap56_ending p h n
  · exact ⟨⟨.keep, some (.pageNotDecoded h.svid 4 h.pageId),
      .decoded ⟨resultHeader h, .pageFrame h.pageId h.dataId .notYetDecoded⟩⟩, fun _ => rfl⟩
  · exact ⟨⟨.keep, none, .decoded ⟨resultHeader h, .almanac h.pageId h.dataId (.perSV (almanacOf n))⟩⟩, fun _ => rfl⟩
  · exact ⟨⟨.keep, some (.pageNotDecoded h.svid 5 h.pageId),
      .decoded ⟨resultHeader h, .almanac h.pageId h.dataId .notDecoded⟩⟩, fun _ => rfl⟩
  · exact ⟨⟨.keep, some (.unknownSubframeID h.svid h.sfid), .unknownSubframeID h.sfid⟩, fun _ => rfl⟩

/-- INTERPRET parses every header register but `svid` from the words (R172, R173). -/
theorem interpret_ending (p : Params) (v : Byte) (n : Ten NormWord) :
    ∃ e : Ending, ∀ s : State, interpret p { s with hdr := { s.hdr with svid := v }, n := n } = e.apply p s := by
  simp only [interpret]
  cases recheckPreamble p n.w0 with
  | error x => exact ⟨⟨.keep, some (rejectionCondition v x), rejectionResponse x⟩, fun _ => rfl⟩
  | ok n0 => exact dispatch_ending p (headerOf v { n with w0 := n0 }) { n with w0 := n0 }

theorem runDecodeRaw_ending (p : Params) (v : Byte) (P : Ten RawWord) :
    ∃ e : Ending, ∀ s, runDecodeRaw p v P s = e.apply p s := by
  unfold runDecodeRaw normalizeAndInterpret
  simp only [loadRaw_w]
  cases normalizeWords p P with
  | error x => exact ⟨⟨.keep, some (rejectionCondition v x), rejectionResponse x⟩, fun _ => rfl⟩
  | ok c =>
    obtain ⟨e, he⟩ := interpret_ending p v c.2
    exact ⟨e, fun s => he { s with serializer := .running, w := c.1 }⟩

theorem runDecodeNorm_ending (p : Params) (v : Byte) (P : Ten RawWord) :
    ∃ e : Ending, ∀ s, runDecodeNorm p v P s = e.apply p s := by
  obtain ⟨e, he⟩ := interpret_ending p v (P.map slotPayload)
  exact ⟨e, fun s => he { s with serializer := .running }⟩

/-- A decode command ends the same way on every state. -/
theorem decode_ending {i : Instr} {v : Byte} {P : Ten RawWord} (h : i = .decodeRaw v P ∨ i = .decodeNorm v P) :
    ∃ e : Ending, ∀ s, exec i s = .next (e.apply Config.build s) := by
  rcases h with rfl | rfl
  · exact (runDecodeRaw_ending Config.build v P).imp fun e he s => congrArg Host.Outcome.next (he s)
  · exact (runDecodeNorm_ending Config.build v P).imp fun e he s => congrArg Host.Outcome.next (he s)

/-- Settles O42: both runs end the same way, so they differ only where that ending keeps the context. -/
theorem decodesDoNotReadTheContext : Obligations.DecodesDoNotReadTheContext := by
  intro i v P s t t' c hi ht ht'
  obtain ⟨e, he⟩ := decode_ending hi
  cases (he s).symm.trans ht
  cases (he _).symm.trans ht'
  exact ⟨rfl, rfl, e.write.week_cases s.ctx c, e.write.leap_cases s.ctx c⟩

/-- A decode run twice writes the same values twice. -/
theorem decode_twice_ctx {i : Instr} {v : Byte} {P : Ten RawWord} (hi : i = .decodeRaw v P ∨ i = .decodeNorm v P)
    {s t u : State} (ht : exec i s = .next t) (hu : exec i t = .next u) : u.ctx = t.ctx := by
  obtain ⟨e, he⟩ := decode_ending hi
  cases (he s).symm.trans ht
  cases (he _).symm.trans hu
  simp only [Ending.apply_ctx, ContextWrite.apply_apply]

/-- Settles O43: READ_CTX and the refused commands write no context, and a decode writes the same values again. -/
theorem commandsAreIdempotentForTheContext : Obligations.CommandsAreIdempotentForTheContext := by
  intro r s t u ht hu
  unfold decodeCommand at ht hu
  simp only at ht hu
  split_ifs at ht hu
  · cases hu; rfl
  · exact decode_twice_ctx (.inl rfl) ht hu
  · exact decode_twice_ctx (.inr rfl) ht hu
  · cases hu; rfl
  · cases hu; rfl

end Sys2Proof.Machine

/-! PROOFS of O1 to O6 (30_encoding.md R86, R87, R99, R100): decode and encode. Both formats are concatenations of their
fields, and each table of instructions is one relation from the fields to the row, `CommandRow` and `DispatchRow`. The
decoder finds the row of the fields (`decodeCommand_row`, `decodeKey_row`) and no other (`CommandRow.decode_eq`,
`DispatchRow.decode_eq`), so each claim is a fact about every row. -/

namespace Sys2Proof

/-! ## The fields of a header and of a key -/

@[simp] theorem commandHeader_op (svid : Byte) (rsv : BitVec 6) (op : BitVec 2) :
    slice (commandHeader svid rsv op) 0 2 = op :=
  BitVec.extractLsb'_append_eq_right

@[simp] theorem commandHeader_rsv (svid : Byte) (rsv : BitVec 6) (op : BitVec 2) :
    slice (commandHeader svid rsv op) 2 6 = rsv :=
  (BitVec.extractLsb'_append_eq_of_le (by decide)).trans BitVec.extractLsb'_append_eq_right

@[simp] theorem commandHeader_svid (svid : Byte) (rsv : BitVec 6) (op : BitVec 2) :
    slice (commandHeader svid rsv op) 8 8 = svid :=
  (BitVec.extractLsb'_append_eq_of_le (by decide)).trans BitVec.extractLsb'_append_eq_left

@[simp] theorem dispatchKeyOf_page (sfid : BitVec 3) (page : BitVec 6) : slice (dispatchKeyOf sfid page) 0 6 = page :=
  BitVec.extractLsb'_append_eq_right

@[simp] theorem dispatchKeyOf_sfid (sfid : BitVec 3) (page : BitVec 6) : slice (dispatchKeyOf sfid page) 6 3 = sfid :=
  BitVec.extractLsb'_append_eq_left

/-- A header is its three fields (R86). -/
theorem commandHeader_slices (h : BitVec 16) : commandHeader (slice h 8 8) (slice h 2 6) (slice h 0 2) = h := by
  unfold commandHeader
  rw [BitVec.extractLsb'_append_extractLsb'_eq_extractLsb' (start₁ := 2) (by decide),
    BitVec.extractLsb'_append_extractLsb'_eq_extractLsb' (by decide)]
  exact BitVec.extractLsb'_eq_self

/-- A key is its two fields (R99). -/
theorem dispatchKeyOf_slices (k : BitVec 9) : dispatchKeyOf (slice k 6 3) (slice k 0 6) = k :=
  (BitVec.extractLsb'_append_extractLsb'_eq_extractLsb' (by decide)).trans BitVec.extractLsb'_eq_self

theorem Request.eq_of_fields (r : Request) : ∃ svid rsv op P, r = ⟨commandHeader svid rsv op, P⟩ :=
  ⟨_, _, _, r.payload, by rw [commandHeader_slices]⟩

theorem commandHeader_inj {svid svid' : Byte} {rsv rsv' : BitVec 6} {op op' : BitVec 2}
    (h : commandHeader svid rsv op = commandHeader svid' rsv' op') : svid = svid' ∧ rsv = rsv' ∧ op = op' :=
  ⟨by simpa using congrArg (slice · 8 8) h, by simpa using congrArg (slice · 2 6) h,
    by simpa using congrArg (slice · 0 2) h⟩

/-- A mask acts field by field. -/
theorem commandHeader_and (svid svid' : Byte) (rsv rsv' : BitVec 6) (op op' : BitVec 2) :
    commandHeader svid rsv op &&& commandHeader svid' rsv' op' =
      commandHeader (svid &&& svid') (rsv &&& rsv') (op &&& op') :=
  BitVec.and_append.trans (congrArg (· ++ (op &&& op')) BitVec.and_append)

/-! ## The two tables -/

/-- The CMD rows of the opcode table: the instruction of a header's fields and its payload (R87, R100). -/
inductive CommandRow : Byte → BitVec 6 → BitVec 2 → Ten RawWord → Instr → Prop where
  | decodeRaw (svid : Byte) (P : Ten RawWord) : CommandRow svid 0 0 P (.decodeRaw svid P)
  | decodeNorm (svid : Byte) (P : Ten RawWord) : CommandRow svid 0 1 P (.decodeNorm svid P)
  | readCtx (svid : Byte) (P : Ten RawWord) : CommandRow svid 0 2 P (.readCtx svid)
  | reservedOp3 (svid : Byte) (P : Ten RawWord) : CommandRow svid 0 3 P (.reservedOp3 svid 0)
  | reservedRsv (svid : Byte) (rsv : BitVec 6) (op : BitVec 2) (P : Ten RawWord) (h : rsv ≠ 0) :
      CommandRow svid rsv op P (.reservedRsv svid rsv op)

/-- The DISPATCH rows of the opcode table: the instruction of a key's fields (R99). -/
inductive DispatchRow : BitVec 3 → BitVec 6 → Instr → Prop where
  | sf1Clock (page : BitVec 6) : DispatchRow 1 page (.sf1Clock page)
  | sf2Ephemeris1 (page : BitVec 6) : DispatchRow 2 page (.sf2Ephemeris1 page)
  | sf3Ephemeris2 (page : BitVec 6) : DispatchRow 3 page (.sf3Ephemeris2 page)
  | sf4Page56Leap : DispatchRow 4 56 .sf4Page56Leap
  | sf4PageNop (page : BitVec 6) (h : page ≠ 56) : DispatchRow 4 page (.sf4PageNop page)
  | sf5Almanac (page : BitVec 6) (h : 1 ≤ page ∧ page ≤ 24) : DispatchRow 5 page (.sf5Almanac page)
  | sf5PageNop (page : BitVec 6) (h : ¬(1 ≤ page ∧ page ≤ 24)) : DispatchRow 5 page (.sf5PageNop page)
  | rejectSfid0 (page : BitVec 6) : DispatchRow 0 page (.rejectSfid0 page)
  | rejectSfid6 (page : BitVec 6) : DispatchRow 6 page (.rejectSfid6 page)
  | rejectSfid7 (page : BitVec 6) : DispatchRow 7 page (.rejectSfid7 page)

theorem decodeCommand_row (svid : Byte) (rsv : BitVec 6) (op : BitVec 2) (P : Ten RawWord) :
    CommandRow svid rsv op P (decodeCommand ⟨commandHeader svid rsv op, P⟩) := by
  simp only [decodeCommand, commandHeader_op, commandHeader_rsv, commandHeader_svid]
  split_ifs with hr h0 h1 h2
  · exact .reservedRsv svid rsv op P hr
  all_goals obtain rfl : rsv = 0 := not_not.mp hr
  · exact h0 ▸ .decodeRaw svid P
  · exact h1 ▸ .decodeNorm svid P
  · exact h2 ▸ .readCtx svid P
  · obtain rfl : op = 3 := by bv_omega
    exact .reservedOp3 svid P

theorem decodeKey_row (sfid : BitVec 3) (page : BitVec 6) :
    DispatchRow sfid page (decodeKey (dispatchKeyOf sfid page)) := by
  simp only [decodeKey, dispatchKeyOf_page, dispatchKeyOf_sfid]
  split_ifs with h1 h2 h3 h56 h4 h24 h5 h0 h6
  · exact h1 ▸ .sf1Clock page
  · exact h2 ▸ .sf2Ephemeris1 page
  · exact h3 ▸ .sf3Ephemeris2 page
  · exact h56.1 ▸ h56.2 ▸ .sf4Page56Leap
  · subst h4
    exact .sf4PageNop page fun h => h56 ⟨rfl, h⟩
  · exact h24.1 ▸ .sf5Almanac page h24.2
  · subst h5
    exact .sf5PageNop page fun h => h24 ⟨rfl, h⟩
  · exact h0 ▸ .rejectSfid0 page
  · exact h6 ▸ .rejectSfid6 page
  · obtain rfl : sfid = 7 := by bv_omega
    exact .rejectSfid7 page

/-- The condition of SF5_PAGE_NOP is the negation of SF5_ALMANAC's. -/
theorem not_almanac_page_iff (page : BitVec 6) : ¬(1 ≤ page ∧ page ≤ 24) ↔ page = 0 ∨ 25 ≤ page := by
  bv_omega

section

variable {svid : Byte} {rsv : BitVec 6} {op : BitVec 2} {P : Ten RawWord}
  {sfid : BitVec 3} {page : BitVec 6} {i : Instr}

theorem CommandRow.decode_eq (h : CommandRow svid rsv op P i) :
    decodeCommand ⟨commandHeader svid rsv op, P⟩ = i := by
  simp only [decodeCommand, commandHeader_op, commandHeader_rsv, commandHeader_svid]
  cases h with
  | reservedRsv _ _ _ h => exact if_pos h
  | _ => rfl

theorem DispatchRow.decode_eq (h : DispatchRow sfid page i) : decodeKey (dispatchKeyOf sfid page) = i := by
  simp only [decodeKey, dispatchKeyOf_page, dispatchKeyOf_sfid]
  cases h with
  | sf4PageNop _ h | sf5Almanac _ h | sf5PageNop _ h => simp only [h]; rfl
  | _ => rfl

/-- The encoder writes an instruction with the fields of its row, and with the payload its row reads (R86, R101). -/
theorem CommandRow.encode_eq (h : CommandRow svid rsv op P i) :
    ∃ Q, encode i = .command ⟨commandHeader svid rsv op, Q⟩ ∧ (rsv = 0 ∧ op &&& 2 = 0 → Q = P) := by
  cases h with
  | decodeRaw | decodeNorm => exact ⟨P, rfl, fun _ => rfl⟩
  | readCtx | reservedOp3 => exact ⟨_, rfl, fun ⟨_, h⟩ => absurd h (by decide)⟩
  | reservedRsv _ _ _ hr => exact ⟨_, rfl, fun ⟨h, _⟩ => absurd h hr⟩

theorem DispatchRow.encode_eq (h : DispatchRow sfid page i) : encode i = .key (dispatchKeyOf sfid page) := by
  cases h <;> rfl

theorem CommandRow.wf (h : CommandRow svid rsv op P i) : i.wf = true := by
  cases h with
  | reservedRsv _ _ _ h => simpa [Instr.wf] using h
  | _ => rfl

theorem DispatchRow.wf (h : DispatchRow sfid page i) : i.wf = true := by
  cases h with
  | sf4PageNop _ h => simpa [Instr.wf] using h
  | sf5Almanac _ h => simpa [Instr.wf] using h
  | sf5PageNop _ h => simpa [Instr.wf] using (not_almanac_page_iff page).mp h
  | _ => rfl

end

/-! ## The claims -/

/-- Settles O2: a well-formed instruction is a row of its table, and its words are the row's fields. -/
theorem decodeOfEncode : Obligations.DecodeOfEncode := by
  intro i hwf
  cases i with
  | decodeRaw svid P => exact (CommandRow.decodeRaw svid P).decode_eq
  | decodeNorm svid P => exact (CommandRow.decodeNorm svid P).decode_eq
  | readCtx svid => exact (CommandRow.readCtx svid _).decode_eq
  | reservedOp3 svid rsv =>
    obtain rfl : rsv = 0 := by simpa [Instr.wf] using hwf
    exact (CommandRow.reservedOp3 svid _).decode_eq
  | reservedRsv svid rsv op =>
    exact (CommandRow.reservedRsv svid rsv op _ (by simpa [Instr.wf] using hwf)).decode_eq
  | sf1Clock page => exact (DispatchRow.sf1Clock page).decode_eq
  | sf2Ephemeris1 page => exact (DispatchRow.sf2Ephemeris1 page).decode_eq
  | sf3Ephemeris2 page => exact (DispatchRow.sf3Ephemeris2 page).decode_eq
  | sf4Page56Leap => exact DispatchRow.sf4Page56Leap.decode_eq
  | sf4PageNop page => exact (DispatchRow.sf4PageNop page (by simpa [Instr.wf] using hwf)).decode_eq
  | sf5Almanac page => exact (DispatchRow.sf5Almanac page (by simpa [Instr.wf] using hwf)).decode_eq
  | sf5PageNop page =>
    have h : page = 0 ∨ 25 ≤ page := by simpa [Instr.wf] using hwf
    exact (DispatchRow.sf5PageNop page ((not_almanac_page_iff page).mpr h)).decode_eq
  | rejectSfid0 page => exact (DispatchRow.rejectSfid0 page).decode_eq
  | rejectSfid6 page => exact (DispatchRow.rejectSfid6 page).decode_eq
  | rejectSfid7 page => exact (DispatchRow.rejectSfid7 page).decode_eq

/-- Settles O3: the row the decoder finds is written with the fields it was read from. The mask 0x00FE leaves the two
rows that read a payload. -/
theorem encodeOfDecode : Obligations.EncodeOfDecode := by
  constructor
  · intro k
    rw [← dispatchKeyOf_slices k]
    exact (decodeKey_row _ _).encode_eq
  · intro r
    obtain ⟨svid, rsv, op, P, rfl⟩ := r.eq_of_fields
    obtain ⟨Q, hQ, hP⟩ := (decodeCommand_row svid rsv op P).encode_eq
    refine ⟨Q, hQ, fun hmask => hP ?_⟩
    have masked := (commandHeader_and svid 0 rsv 0x3F op 2).symm.trans hmask
    obtain ⟨-, hr, ho⟩ := commandHeader_inj (svid' := 0) (rsv' := 0) (op' := 0) masked
    exact ⟨(BitVec.and_allOnes (x := rsv)).symm.trans hr, ho⟩

/-- Settles O4: the row's condition is the one the decoder tested. -/
theorem decodedInstrIsWellFormed : Obligations.DecodedInstrIsWellFormed := by
  rintro (r | k)
  · obtain ⟨svid, rsv, op, P, rfl⟩ := r.eq_of_fields
    exact (decodeCommand_row svid rsv op P).wf
  · rw [← dispatchKeyOf_slices k]
    exact (decodeKey_row _ _).wf

/-- Settles O5: the mask 0x00FF leaves `rsv` and `op`, and 0x00FC leaves `rsv`. -/
theorem commandHeadersDecode : Obligations.CommandHeadersDecode := by
  intro r
  obtain ⟨svid, rsv, op, P, rfl⟩ := r.eq_of_fields
  have low : ∀ {op' : BitVec 2}, commandHeader svid rsv op &&& 0x00FF = commandHeader 0 0 op' →
      rsv = 0 ∧ op = op' := fun h => (commandHeader_inj ((Laws.TableRow.header_low_byte rsv op svid).symm.trans h)).2
  simp only [commandHeader_svid, commandHeader_rsv, commandHeader_op]
  refine ⟨fun h => ?_, fun h => ?_, fun h => ?_, fun h => ?_, fun h => ?_⟩
  · obtain ⟨rfl, rfl⟩ := low (op' := 0) h
    exact (CommandRow.decodeRaw svid P).decode_eq
  · obtain ⟨rfl, rfl⟩ := low (op' := 1) h
    exact (CommandRow.decodeNorm svid P).decode_eq
  · obtain ⟨rfl, rfl⟩ := low (op' := 2) h
    exact (CommandRow.readCtx svid P).decode_eq
  · obtain ⟨rfl, rfl⟩ := low (op' := 3) h
    exact (CommandRow.reservedOp3 svid P).decode_eq
  · have hr : rsv ≠ 0 := by
      rintro rfl
      exact h ((commandHeader_and svid 0 0 0x3F op 0).trans
        (congrArg₂ (commandHeader · 0 ·) BitVec.and_zero BitVec.and_zero))
    exact (CommandRow.reservedRsv svid rsv op P hr).decode_eq

/-- Settles O1: each number is the concatenation of its row's fields. -/
theorem specWordsDecode : Obligations.SpecWordsDecode := fun P =>
  ⟨(CommandRow.decodeRaw 5 P).decode_eq, (CommandRow.decodeNorm 5 P).decode_eq,
    (CommandRow.readCtx 7 P).decode_eq, (CommandRow.reservedOp3 0 P).decode_eq,
    (CommandRow.reservedRsv 0 1 0 P (by decide)).decode_eq,
    (CommandRow.reservedRsv 5 0x3F 3 P (by decide)).decode_eq,
    (DispatchRow.sf1Clock 60).decode_eq, (DispatchRow.sf2Ephemeris1 1).decode_eq,
    (DispatchRow.sf3Ephemeris2 2).decode_eq, DispatchRow.sf4Page56Leap.decode_eq,
    (DispatchRow.sf4PageNop 55 (by decide)).decode_eq, (DispatchRow.sf5Almanac 24 (by decide)).decode_eq,
    (DispatchRow.sf5PageNop 25 (by decide)).decode_eq, (DispatchRow.rejectSfid0 0).decode_eq,
    (DispatchRow.rejectSfid6 1).decode_eq, (DispatchRow.rejectSfid7 63).decode_eq⟩

/-- Settles O6: the mask 0x1C0 leaves the sfid of a key, and the row's condition is the page's. -/
theorem dispatchMapDecodes : Obligations.DispatchMapDecodes := by
  intro k
  rw [← dispatchKeyOf_slices k]
  generalize slice k 6 3 = sfid, slice k 0 6 = page
  have masked : ∀ {sfid' : BitVec 3}, dispatchKeyOf sfid page &&& 0x1C0 = sfid' ++ 0#6 → sfid = sfid' :=
    fun h => (BitVec.append_left_inj 0#6).mp ((Laws.TableRow.key_high_bits sfid page).symm.trans h)
  simp only [dispatchKeyOf_page]
  refine ⟨fun h => ?_, fun h => ?_, fun h => ?_, fun h => ?_, fun h hp => ?_, fun h hp => ?_, fun h hp => ?_,
    fun h => ?_, fun h => ?_, fun h => ?_⟩
  · obtain rfl := masked (sfid' := 1) h
    exact (DispatchRow.sf1Clock page).decode_eq
  · obtain rfl := masked (sfid' := 2) h
    exact (DispatchRow.sf2Ephemeris1 page).decode_eq
  · obtain rfl := masked (sfid' := 3) h
    exact (DispatchRow.sf3Ephemeris2 page).decode_eq
  · rw [h]
    exact DispatchRow.sf4Page56Leap.decode_eq
  · obtain rfl := masked (sfid' := 4) h
    exact (DispatchRow.sf4PageNop page hp).decode_eq
  · obtain rfl := masked (sfid' := 5) h
    exact (DispatchRow.sf5Almanac page hp).decode_eq
  · obtain rfl := masked (sfid' := 5) h
    exact (DispatchRow.sf5PageNop page ((not_almanac_page_iff page).mpr hp)).decode_eq
  · obtain rfl := masked (sfid' := 0) h
    exact (DispatchRow.rejectSfid0 page).decode_eq
  · obtain rfl := masked (sfid' := 6) h
    exact (DispatchRow.rejectSfid6 page).decode_eq
  · obtain rfl := masked (sfid' := 7) h
    exact (DispatchRow.rejectSfid7 page).decode_eq

end Sys2Proof

/-! PROOFS of O7, O54, O31, O39 (30_encoding.md R82, R88, R90, R99): what an encoding's rows and fields mean when they
run. -/

namespace Sys2Proof.Machine

/-- A row of the dispatch map runs the arm that INTERPRET's nested cases reach (R99, R171, R240, R270). -/
theorem exec_dispatchRow {sfid : BitVec 3} {page : BitVec 6} {i : Instr} (h : DispatchRow sfid page i) {s : State}
    (hs : s.hdr.sfid = sfid) (hp : s.hdr.pageId = page) : exec i s = .next (dispatch Config.build s) := by
  unfold dispatch
  rw [hs]
  cases h with
  | sf4Page56Leap => simp only [page4, hp]; rfl
  | sf4PageNop _ h => simp only [page4, hp, h]; rfl
  | sf5Almanac _ h | sf5PageNop _ h => simp only [page5, hp, h]; rfl
  | _ => rfl

/-- Settles O7: the key's row is the one of the header registers. -/
theorem caseOfSfidRunsTheMapsRow : Obligations.CaseOfSfidRunsTheMapsRow := fun s =>
  exec_dispatchRow (decodeKey_row s.hdr.sfid s.hdr.pageId) rfl rfl

/-- The entry taken and the entries left are the ones that were outstanding (R65). -/
theorem takeNext_perm {p : Params} {s u : State} {e : PortEvent} (h : takeNext p s = some (e, u)) :
    (e :: u.pending).Perm s.pending := by
  obtain ⟨k, hk, rfl⟩ := takeNext_some h
  obtain ⟨hlt, rfl⟩ := List.getElem?_eq_some_iff.mp hk
  exact List.getElem_cons_eraseIdx_perm hlt

theorem takeNext_responses {p : Params} {s u : State} {e : PortEvent} (h : takeNext p s = some (e, u)) :
    u.responses = s.responses := by
  obtain ⟨k, -, rfl⟩ := takeNext_some h
  rfl

/-- Settles O54: a command taken is answered once, a reset taken is not a command and is not answered. -/
theorem oneResponsePerCommand : Obligations.OneResponsePerCommand := by
  intro s t hi h
  rcases step_cases h with ⟨hrun, _⟩ | ⟨_, _, rfl⟩ | ⟨_, q, u, hu, hx⟩ | ⟨_, u, hu, rfl⟩
  · cases hi.symm.trans hrun
  · exact ⟨[], (List.append_nil _).symm, rfl, Nat.le_succ _⟩
  · obtain ⟨r, ha, -, hp, -⟩ := exec_effect hx
    have hperm := takeNext_perm hu
    refine ⟨[r], takeNext_responses hu ▸ ha, ?_, ?_⟩
    · rw [← hperm.countP_eq, hp]; exact List.countP_cons_of_pos rfl
    · rw [← hperm.length_eq, hp]; rfl
  · have hperm := takeNext_perm hu
    refine ⟨[], by simp [takeNext_responses hu], ?_, ?_⟩
    · rw [← hperm.countP_eq]; rfl
    · rw [← hperm.length_eq]; rfl

/-- Settles O31: the mask has exactly the bits 6 to 29. -/
theorem polarityMaskCoversTheDataBits : Obligations.PolarityMaskCoversTheDataBits := by
  intro w i hi
  rw [BitVec.getLsbD_xor, maskDI_getLsbD hi]
  split <;> simp [*]

/-- Words with the same low 24 bits are loaded the same (R88). -/
theorem loadNorm_congr (svid : Byte) {P Q : Ten RawWord} (s : State)
    (h : ∀ i : Fin 10, slotPayload (P.get i) = slotPayload (Q.get i)) : loadNorm svid P s = loadNorm svid Q s := by
  have hmap : P.map slotPayload = Q.map slotPayload := Ten.ext_get (by simpa using h)
  simp only [loadNorm, hmap]

/-- Settles O39: DECODE_NORM reads its payload through the load only. -/
theorem directInvocationIgnoresTopBytes : Obligations.DirectInvocationIgnoresTopBytes :=
  ⟨fun _ P _ i => Ten.map_get slotPayload P i,
    fun svid _ _ s h => congrArg (fun t => Host.Outcome.next (interpret Config.build t)) (loadNorm_congr svid s h)⟩

end Sys2Proof.Machine

/-! PROOFS of O16, O17, O18, O32 to O37 (40_normalizer.md): the Normalizer. What a normalization returns is said word by
word (`normalizeWords_word0`, `normalizeWords_get`), and DECODE_RAW is a function of it: it raises the Normalizer's
rejection (`runDecodeRaw_error`) or dispatches the normalized words (`runDecodeRaw_ok`). -/

namespace Sys2Proof.Machine

/-! ## Polarity -/

theorem slice_one_eq_one_iff {n : Nat} (w : BitVec n) (i : Nat) : slice w i 1 = 1 ↔ w.getLsbD i = true := by
  have hbit : slice w i 1 = BitVec.ofBool (w.getLsbD i) := by
    apply BitVec.eq_of_getLsbD_eq
    intro j hj
    obtain rfl : j = 0 := by omega
    simp
  rw [hbit]
  exact BitVec.ofBool_eq_iff_eq (b' := true)

/-- Polarity correction, by the bit itself (R144). -/
theorem correctPolarity_eq_ite (w : RawWord) : correctPolarity w = if w.getLsbD 30 then w ^^^ maskDI else w := by
  simp only [correctPolarity, slice_one_eq_one_iff]

/-- The stripped word after polarity correction, by the bit itself (R144, R146). -/
theorem strip_correctPolarity_eq_ite (w : RawWord) :
    strip (correctPolarity w) = if w.getLsbD 30 then ~~~strip w else strip w := by
  simp only [strip_correctPolarity, slice_one_eq_one_iff]

/-- Polarity correction commutes with a change that leaves bit 30 alone (R144). -/
theorem correctPolarity_xor {x : RawWord} (w : RawWord) (hx : x.getLsbD 30 = false) :
    correctPolarity (w ^^^ x) = correctPolarity w ^^^ x := by
  simp only [correctPolarity_eq_ite, BitVec.getLsbD_xor, hx, Bool.xor_false]
  split
  · rw [BitVec.xor_assoc, BitVec.xor_comm x, ← BitVec.xor_assoc]
  · rfl

/-- A word sent with the other polarity and its flag set so has the same corrected data (R144). -/
theorem strip_correctPolarity_inverted {w w' : RawWord} (hflag : w'.getLsbD 30 = !w.getLsbD 30)
    (hdata : strip w' = ~~~strip w) : strip (correctPolarity w') = strip (correctPolarity w) := by
  rw [strip_correctPolarity_eq_ite, strip_correctPolarity_eq_ite, hflag, hdata]
  cases w.getLsbD 30
  · exact BitVec.not_not
  · rfl

/-- Flipping a bit from 6 up keeps the parity bits (R80). -/
theorem slice_flip_parity {i : Nat} (hi : 6 ≤ i) (w : RawWord) :
    slice (w ^^^ BitVec.twoPow 32 i) 0 6 = slice w 0 6 := by
  apply BitVec.eq_of_getLsbD_eq
  intro j hj
  simp [show i ≠ j by omega]

/-! ## Word 0 -/

/-- The two forms of the preamble differ (R2, R141). -/
theorem sentinel_ne_not (p : Params) : p.sentinel ≠ ~~~p.sentinel := BitVec.ne_not_self (by decide)

/-- Stripping an inverted word complements it (R81, R82). -/
theorem strip_invert (w : RawWord) : strip (w ^^^ maskDI) = ~~~strip w :=
  slice_invert_data (by decide) (by decide) w

/-- Both polarities are detected: what word 0 is corrected to (R141, R142). -/
theorem correctWord0_of_preamble {p : Params} {w : RawWord}
    (h : slice w 22 8 = p.sentinel ∨ slice w 22 8 = ~~~p.sentinel) :
    ∃ w0, correctWord0 p w = .ok w0 ∧ strip w0 = if slice w 22 8 = p.sentinel then strip w else ~~~strip w := by
  rcases correctWord0_cases p w with ⟨hp, e⟩ | ⟨hp, e⟩ | ⟨⟨h1, h2⟩, _⟩
  · exact ⟨_, e, by rw [hp, if_neg (sentinel_ne_not p).symm, strip_invert]⟩
  · exact ⟨_, e, by rw [if_pos hp]⟩
  · exact absurd h (not_or.mpr ⟨h1, h2⟩)

/-- A corrected word 0 has the sentinel as its preamble (R142). -/
theorem correctWord0_sentinel {p : Params} {w w0 : RawWord} (h : correctWord0 p w = .ok w0) :
    slice w0 22 8 = p.sentinel := by
  rcases correctWord0_cases p w with ⟨hp, e⟩ | ⟨hp, e⟩ | ⟨_, e⟩ <;> cases e.symm.trans h
  · rw [slice_invert_data (by decide) (by decide), hp, BitVec.not_not]
  · exact hp

/-- An inverted word 0 is corrected to the same word (R142). -/
theorem correctWord0_invert {p : Params} {w w0 : RawWord} (h : correctWord0 p w = .ok w0) :
    correctWord0 p (w ^^^ maskDI) = .ok w0 := by
  have hinv : slice (w ^^^ maskDI) 22 8 = ~~~slice w 22 8 := slice_invert_data (by decide) (by decide) w
  rcases correctWord0_cases p w with ⟨hp, e⟩ | ⟨hp, e⟩ | ⟨_, e⟩ <;> cases e.symm.trans h
  · simp [correctWord0, hinv, hp]
  · simp [correctWord0, hinv, hp]

/-- Preamble detection reads the data bits of word 0 only (R141, R143). -/
theorem correctWord0_strip_congr {p : Params} {w w' : RawWord} (h : strip w = strip w') :
    (correctWord0 p w).map strip = (correctWord0 p w').map strip := by
  have hpre : slice w 22 8 = slice w' 22 8 := by rw [← strip_preamble, h, strip_preamble]
  simp only [correctWord0, hpre]
  split_ifs
  · exact congrArg Except.ok (by rw [strip_invert, strip_invert, h])
  · rfl
  · exact congrArg Except.ok h

/-! ## What the Normalizer returns -/

section
variable {p : Params} {P c : Ten RawWord} {n : Ten NormWord}

/-- Normalized word 0 is the corrected word 0, stripped (R143). -/
theorem normalizeWords_word0 (h : normalizeWords p P = .ok (c, n)) :
    ∃ w0, correctWord0 p P.w0 = .ok w0 ∧ n.w0 = strip w0 := by
  obtain ⟨w0, h0, rfl, rfl, -⟩ := normalizeWords_ok.mp h
  exact ⟨w0, h0, rfl⟩

/-- A normalized word 1 to 9 is its own raw word, corrected and stripped (R144, R146). -/
theorem normalizeWords_get (h : normalizeWords p P = .ok (c, n)) {i : Fin 10} (hi : i ≠ 0) :
    n.get i = strip (correctPolarity (P.get i)) := by
  obtain ⟨w0, -, rfl, rfl, -⟩ := normalizeWords_ok.mp h
  rw [Ten.map_get, correctedWords_get _ _ _ hi]

/-- Each word 1 to 9 of a payload that normalizes has its parity (R145). -/
theorem normalizeWords_parity (h : normalizeWords p P = .ok (c, n)) {i : Fin 10} (hi : i ≠ 0) :
    p.parity (correctPolarity (P.get i)) = slice (P.get i) 0 6 := by
  obtain ⟨w0, -, rfl, -, hpar⟩ := normalizeWords_ok.mp h
  rw [← correctPolarity_parity, ← correctedWords_get w0 P i hi]
  exact (firstParityError_none p _).mp hpar i hi

/-- The preamble of a normalized subframe (R142, R149). -/
theorem normalizeWords_sentinel (h : normalizeWords p P = .ok (c, n)) : slice n.w0 16 8 = p.sentinel := by
  obtain ⟨w0, h0, hn⟩ := normalizeWords_word0 h
  rw [hn, strip_preamble, correctWord0_sentinel h0]

/-- A preamble of neither form is rejected before words 1 to 9 are read (R141). -/
theorem normalizeWords_mismatch (h : slice P.w0 22 8 ≠ p.sentinel) (h' : slice P.w0 22 8 ≠ ~~~p.sentinel) :
    normalizeWords p P = .error (.preambleMismatch (slice P.w0 22 8)) := by
  have e : correctWord0 p P.w0 = .error (.preambleMismatch (slice P.w0 22 8)) := by simp [correctWord0, h, h']
  simp only [normalizeWords, e]

/-- Words 1 to 9 that have their parity, behind a preamble of either form, are normalized (R140). -/
theorem normalizeWords_of_parity {w0 : RawWord} (h0 : correctWord0 p P.w0 = .ok w0)
    (hpar : ∀ i : Fin 10, i ≠ 0 → p.parity (correctPolarity (P.get i)) = slice (P.get i) 0 6) :
    normalizeWords p P = .ok (correctedWords w0 P, (correctedWords w0 P).map strip) := by
  refine normalizeWords_ok.mpr ⟨w0, h0, rfl, rfl, (firstParityError_none p _).mpr fun i hi => ?_⟩
  rw [correctedWords_get w0 P i hi, correctPolarity_parity]
  exact hpar i hi

/-- The lowest word whose parity does not match is rejected, whatever the words after it hold (R145). -/
theorem normalizeWords_lowest {w0 : RawWord} (h0 : correctWord0 p P.w0 = .ok w0) {i : Fin 10} (hi : i ≠ 0)
    (hl : ∀ j : Fin 10, j ≠ 0 → j < i → p.parity (correctPolarity (P.get j)) = slice (P.get j) 0 6)
    (hb : p.parity (correctPolarity (P.get i)) ≠ slice (P.get i) 0 6) :
    normalizeWords p P =
      .error (.parityFailure (BitVec.ofNat 4 i) (p.parity (correctPolarity (P.get i))) (slice (P.get i) 0 6)) := by
  have corrected : ∀ j : Fin 10, j ≠ 0 → (correctedWords w0 P).get j = correctPolarity (P.get j) :=
    fun j hj => correctedWords_get w0 P j hj
  have e := firstParityError_lowest (p := p) (w := correctedWords w0 P) hi
    (fun j hj hlt => by rw [corrected j hj, correctPolarity_parity]; exact hl j hj hlt)
    (by rw [corrected i hi, correctPolarity_parity]; exact hb)
  rw [corrected i hi, correctPolarity_parity] at e
  simp only [normalizeWords, h0, e]

/-- The Normalizer raises two of the rejections (R301, R302). -/
theorem normalizeWords_error {x : Rejection} (h : normalizeWords p P = .error x) :
    (∃ pre, x = .preambleMismatch pre) ∨ ∃ k e a, x = .parityFailure k e a := by
  unfold normalizeWords at h
  rcases correctWord0_cases p P.w0 with ⟨_, e⟩ | ⟨_, e⟩ | ⟨_, e⟩ <;> simp only [e] at h
  case inr.inr => exact .inl ⟨_, (Except.error.inj h).symm⟩
  all_goals
    split at h
    · rename_i hx
      obtain ⟨k, v, rfl⟩ := firstParityError_some hx
      exact .inr ⟨k, _, _, (Except.error.inj h).symm⟩
    · cases h

/-- The normalized words, given the stripped word 0: the rejection of words 1 to 9, or their corrected data (R144 to
R146). No word 0 is among the words checked, so any stands for it in the check. -/
def normalizeRest (p : Params) (P : Ten RawWord) (d0 : NormWord) : Except Rejection (Ten NormWord) :=
  match firstParityError p (correctedWords 0 P) with
  | some x => .error x
  | none => .ok { P.map (strip ∘ correctPolarity) with w0 := d0 }

/-- Word 0 reaches the normalized words only through its corrected and stripped form (R143). -/
theorem normalizeWords_data (p : Params) (P : Ten RawWord) :
    (normalizeWords p P).map Prod.snd = ((correctWord0 p P.w0).map strip).bind (normalizeRest p P) := by
  unfold normalizeWords
  cases correctWord0 p P.w0 with
  | error x => rfl
  | ok w0 =>
    have hword0 : firstParityError p (correctedWords w0 P) = firstParityError p (correctedWords 0 P) := rfl
    simp only [Except.map, Except.bind, normalizeRest, hword0]
    cases firstParityError p (correctedWords 0 P) <;> rfl

end

/-! ## DECODE_RAW by what the Normalizer returns -/

section
variable {p : Params} {P c : Ten RawWord} {n : Ten NormWord} (v : Byte) (s : State)

theorem runDecodeRaw_error {x : Rejection} (h : normalizeWords p P = .error x) :
    runDecodeRaw p v P s = raise p x (loadRaw v P s) := by
  simp only [runDecodeRaw, normalizeAndInterpret, loadRaw_w, h]

/-- The re-check finds the sentinel, so the dispatch runs on the normalized words as they are (R147, R149, R172). -/
theorem runDecodeRaw_ok (h : normalizeWords p P = .ok (c, n)) :
    runDecodeRaw p v P s = dispatch p (loadedSubframe v n s) := by
  have hpre : recheckPreamble p n.w0 = .ok n.w0 := by
    simp only [recheckPreamble, normalizeWords_sentinel h, if_neg (sentinel_ne_not p), ne_eq, not_true, if_false]
  calc runDecodeRaw p v P s
    _ = interpret p (storeNormalized c n (loadRaw v P s)) := by
      simp only [runDecodeRaw, normalizeAndInterpret, loadRaw_w, h]
    _ = dispatch p (withRaw c (loadedSubframe v n s)) := by
      simp only [interpret, storeNormalized_n, hpre]; rfl
    _ = dispatch p (loadedSubframe v n s) := dispatch_withRaw p c _

/-- How DECODE_RAW ends, given the normalized words or the rejection (R147, R148). A rejection discards the raw buffer,
so any payload stands for the one loaded. -/
def endNormalized (p : Params) (v : Byte) (s : State) : Except Rejection (Ten NormWord) → State
  | .error x => raise p x (loadRaw v (Ten.fill 0) s)
  | .ok n => dispatch p (loadedSubframe v n s)

/-- DECODE_RAW reads its payload through the normalized words only (R147, R148). -/
theorem runDecodeRaw_eq (P : Ten RawWord) :
    runDecodeRaw p v P s = endNormalized p v s ((normalizeWords p P).map Prod.snd) := by
  cases h : normalizeWords p P with
  | error x => exact runDecodeRaw_error v s h
  | ok cn => exact runDecodeRaw_ok v s h

end

/-- A dispatch answers with a decoded subframe or an unknown subframe ID (R174, R175). -/
theorem dispatch_answers (p : Params) (s : State) :
    (∃ d, Answers s (dispatch p s) (.decoded d)) ∨ ∃ f, Answers s (dispatch p s) (.unknownSubframeID f) := by
  rcases dispatch_cases p s with ⟨_, e⟩ | ⟨_, e⟩ | ⟨_, e⟩ | ⟨_, _, e⟩ | ⟨_, _, e⟩ | ⟨_, _, e⟩ | ⟨_, _, e⟩ | ⟨_, e⟩ <;>
    rw [e]
  case inr.inr.inr.inr.inr.inr.inr => exact .inr ⟨_, rfl⟩
  all_goals exact .inl ⟨_, rfl⟩

/-- A command answers once (R90). -/
theorem Answers.unique {s t : State} {r r' : Response} (h : Answers s t r) (h' : Answers s t r') : r = r' := by
  simpa using h.symm.trans h'

/-! ## The reference parity -/

theorem oddBits_xor_and (a b m : BitVec 32) (n : Nat) :
    oddBits ((a ^^^ b) &&& m) n = xor (oddBits (a &&& m) n) (oddBits (b &&& m) n) := by
  induction n with
  | zero => rfl
  | succ k ih =>
    simp only [oddBits, ih, BitVec.getLsbD_and, BitVec.getLsbD_xor, Bool.and_xor_distrib_right]
    rw [Bool.xor_assoc, Bool.xor_left_comm (b.getLsbD k && _), ← Bool.xor_assoc]

/-- The reference parity is linear (G1). -/
theorem referenceParity_xor (a b : RawWord) :
    referenceParity (a ^^^ b) = referenceParity a ^^^ referenceParity b := by
  simp only [referenceParity, parityBit, oddBits_xor_and, ← BitVec.ofBool_xor_ofBool, ← BitVec.xor_append]

theorem oddBits_twoPow_and {i : Nat} (hi : i < 32) (m : BitVec 32) (n : Nat) :
    oddBits (BitVec.twoPow 32 i &&& m) n = (decide (i < n) && m.getLsbD i) := by
  induction n with
  | zero => simp [oddBits]
  | succ k ih =>
    rw [oddBits, ih, BitVec.getLsbD_and, BitVec.getLsbD_twoPow]
    rcases Nat.lt_trichotomy i k with h | rfl | h
    · simp [h.ne, h, Nat.lt_succ_of_lt h]
    · simp [hi]
    · simp [h.ne', show ¬ i < k by omega, show ¬ i < k + 1 by omega]

/-- The parity of a single bit is the mask's bit at its place. -/
theorem parityBit_twoPow {i : Nat} (hi : i < 32) (m : BitVec 32) :
    parityBit (BitVec.twoPow 32 i) m = BitVec.ofBool (m.getLsbD i) := by
  rw [parityBit, oddBits_twoPow_and hi, decide_eq_true hi, Bool.true_and]

/-- Each data bit is under one of the masks (G1). -/
theorem referenceParity_twoPow_ne_zero {i : Nat} (hl : 6 ≤ i) (hh : i ≤ 29) :
    referenceParity (BitVec.twoPow 32 i) ≠ 0 := by
  simp only [referenceParity, parityBit_twoPow (show i < 32 by omega)]
  interval_cases i <;> decide

/-! ## The claims -/

/-- Settles O16: the words normalize, and the dispatch of the normalized words is the claim's. -/
theorem decodeRawNormalizesAndDispatches : Obligations.DecodeRawNormalizesAndDispatches := by
  refine ⟨fun _ _ _ => rfl, fun p v P s => ?_⟩
  intro flip pre data0 hpre hpar
  have hflip : flip = correctPolarity := funext fun w => (correctPolarity_eq_ite w).symm
  obtain ⟨w0, h0, hdata⟩ := correctWord0_of_preamble hpre
  have hn := normalizeWords_of_parity h0 fun i hi => by
    rw [← correctPolarity_parity, ← hflip]; exact hpar i hi
  have hwords : (correctedWords w0 P).map strip =
      { P.map (fun w => (flip w).extractLsb' 6 24) with w0 := if pre = p.sentinel then data0 else ~~~data0 } := by
    rw [hflip]; exact congrArg (fun d => { P.map (strip ∘ correctPolarity) with w0 := d }) hdata
  rw [runDecodeRaw_ok v s hn, hwords]

/-- Settles O17: the mismatch ends the normalization at word 0. -/
theorem preambleMismatchRejects : Obligations.PreambleMismatchRejects := fun v P s h h' =>
  ⟨_, rfl, by
    rw [runDecodeRaw_error v s (normalizeWords_mismatch (p := Config.build) h h')]
    exact raise_spec Config.build (.preambleMismatch (slice P.w0 22 8)) (loadRaw v P s)⟩

/-- Settles O18: the lowest failing word is the one the Normalizer rejects. -/
theorem parityFailureRejectsLowestWord : Obligations.ParityFailureRejectsLowestWord := by
  intro p v P s i flip expected actual hpre hi hl hb
  have hflip : flip = correctPolarity := funext fun w => (correctPolarity_eq_ite w).symm
  obtain ⟨w0, h0, -⟩ := correctWord0_of_preamble hpre
  rw [runDecodeRaw_error v s (normalizeWords_lowest h0 hi (hflip ▸ hl) (hflip ▸ hb)), ← hflip]
  exact raise_spec p (.parityFailure (BitVec.ofNat 4 i) expected actual) (loadRaw v P s)

/-- Settles O32: the Normalizer raises no BadPreamble, and neither does the dispatch. -/
theorem normalizedPreambleIsTheSentinel : Obligations.NormalizedPreambleIsTheSentinel := by
  refine ⟨fun _ _ _ _ => normalizeWords_sentinel, fun v P s t pre ht hbad => ?_⟩
  cases ht
  cases h : normalizeWords Config.build P with
  | error x =>
    rw [runDecodeRaw_error v s h] at hbad
    have hx : rejectionResponse x = .badPreamble pre := Answers.unique (raise_spec _ x (loadRaw v P s)).1.1 hbad
    obtain ⟨_, rfl⟩ | ⟨_, _, _, rfl⟩ := normalizeWords_error h <;> cases hx
  | ok cn =>
    rw [runDecodeRaw_ok v s h] at hbad
    obtain ⟨_, ha⟩ | ⟨_, ha⟩ := dispatch_answers Config.build (loadedSubframe v cn.2 s) <;> cases ha.unique hbad

/-- Settles O33: the corrected word, stripped, by its bit 30. -/
theorem normalizerReturnsThePayload : Obligations.NormalizerReturnsThePayload := fun _ P _ _ h i hi =>
  (normalizeWords_get h hi).trans (strip_correctPolarity_eq_ite (P.get i))

/-- Settles O34: word 0 is corrected to the same word, and each word 1 to 9 to the same data. -/
theorem inversionGivesTheSameSubframe : Obligations.InversionGivesTheSameSubframe := by
  intro p P c n h
  constructor
  · obtain ⟨w0, h0, hc, hn, hpar⟩ := normalizeWords_ok.mp h
    exact ⟨c, normalizeWords_ok.mpr ⟨w0, correctWord0_invert h0, hc, hn, hpar⟩⟩
  · intro P' c' n' hw0 hwords h'
    apply Ten.ext_get
    intro i
    by_cases hi : i = 0
    · obtain ⟨w0, h0, hn⟩ := normalizeWords_word0 h
      obtain ⟨w0', h0', hn'⟩ := normalizeWords_word0 h'
      rw [hw0] at h0'
      cases h0.symm.trans h0'
      subst hi
      exact hn'.trans hn.symm
    · rw [normalizeWords_get h hi, normalizeWords_get h' hi]
      obtain heq | ⟨hflag, hdata⟩ := hwords i hi
      · rw [heq]
      · exact strip_correctPolarity_inverted hflag hdata

/-- Settles O35: word 0 is read through its data bits only. -/
theorem wordZeroParityAndFlagAreUnread : Obligations.WordZeroParityAndFlagAreUnread := by
  intro v P w0 s h
  have hdata : (normalizeWords Config.build { P with w0 := w0 }).map Prod.snd =
      (normalizeWords Config.build P).map Prod.snd := by
    rw [normalizeWords_data, normalizeWords_data, correctWord0_strip_congr h]
    rfl
  exact congrArg Host.Outcome.next (by rw [runDecodeRaw_eq, runDecodeRaw_eq, hdata])

/-- Settles O36: the parity is linear, and that of a single data bit is not zero. -/
theorem referenceParitySeesEveryDataBit : Obligations.ReferenceParitySeesEveryDataBit := by
  intro w i hl hh heq
  rw [referenceParity_xor] at heq
  exact referenceParity_twoPow_ne_zero hl hh ((BitVec.xor_right_inj _).mp (heq.trans BitVec.xor_zero.symm))

/-- Settles O37: the flipped word's parity bits stay and its parity changes; every other word has its parity as before. -/
theorem singleBitFlipFailsAtItsWord : Obligations.SingleBitFlipFailsAtItsWord := by
  intro p P P' c n k i href h hk hl hh hflip hsame
  obtain ⟨w0, h0, -⟩ := normalizeWords_word0 h
  have hw0 : P'.w0 = P.w0 := hsame 0 hk.symm
  have hbits : slice (P'.get k) 0 6 = slice (P.get k) 0 6 := by
    rw [hflip, slice_flip_parity hl]
  have hcorrected : correctPolarity (P'.get k) = correctPolarity (P.get k) ^^^ BitVec.twoPow 32 i := by
    rw [hflip]
    exact correctPolarity_xor _ (by simp; omega)
  refine ⟨_, _, normalizeWords_lowest (hw0 ▸ h0) hk (fun j hj hlt => ?_) ?_⟩
  · rw [hsame j hlt.ne]
    exact normalizeWords_parity h hj
  · rw [hbits, hcorrected, ← normalizeWords_parity h hk, href]
    exact referenceParitySeesEveryDataBit _ i hl hh

end Sys2Proof.Machine

/-! PROOFS of O19, O20, O30, O38, O45, O47 (41_interpreter.md): the Interpreter. The preamble re-check decides how
DECODE_NORM goes on: it raises BadPreamble (`runDecodeNorm_error`) or dispatches the loaded subframe
(`runDecodeNorm_ok`), which is where DECODE_RAW arrives too (`runDecodeRaw_ok`). -/

namespace Sys2Proof.Machine

/-! ## The words of a DECODE_NORM slot -/

/-- The preamble of a slot is in the 24 bits that are loaded (R83, R88). -/
theorem slotPayload_preamble (w : RawWord) : slice (slotPayload w) 16 8 = slice w 16 8 := by
  apply BitVec.eq_of_getLsbD_eq
  intro i hi
  simp [slotPayload, hi]

/-- A normalized word under any top byte is loaded as it is (R88). -/
theorem slotPayload_append (top : BitVec 8) (d : NormWord) : slotPayload (top ++ d) = d :=
  BitVec.extractLsb'_append_eq_right

/-- Normalized words put into the slots are loaded as they are (R88, R170). -/
theorem map_slotPayload_append (top : BitVec 8) (n : Ten NormWord) :
    (n.map fun d => top ++ d).map slotPayload = n :=
  Ten.ext_get fun i => by rw [Ten.map_get, Ten.map_get, slotPayload_append]

/-! ## DECODE_NORM by what the preamble re-check answers -/

/-- A preamble of either form passes, word 0 complemented where it is the inverted form (R172). -/
theorem recheckPreamble_of_preamble {p : Params} {d : NormWord}
    (h : slice d 16 8 = p.sentinel ∨ slice d 16 8 = ~~~p.sentinel) :
    recheckPreamble p d = .ok (if slice d 16 8 = p.sentinel then d else ~~~d) := by
  rcases recheckPreamble_cases p d with ⟨hp, e⟩ | ⟨hp, e⟩ | ⟨⟨h1, h2⟩, _⟩
  · rw [e, hp, if_neg (sentinel_ne_not p).symm]
  · rw [e, if_pos hp]
  · exact absurd h (not_or.mpr ⟨h1, h2⟩)

/-- A preamble of neither form is rejected (R172, R303). -/
theorem recheckPreamble_bad {p : Params} {d : NormWord}
    (h : slice d 16 8 ≠ p.sentinel) (h' : slice d 16 8 ≠ ~~~p.sentinel) :
    recheckPreamble p d = .error (.badPreamble (slice d 16 8)) := by
  simp only [recheckPreamble, if_neg h', if_pos h]

section
variable {p : Params} (v : Byte) {P : Ten RawWord} (s : State)

theorem runDecodeNorm_error {x : Rejection} (h : recheckPreamble p (slotPayload P.w0) = .error x) :
    runDecodeNorm p v P s = raise p x (loadNorm v P s) := by
  have hw0 : (loadNorm v P s).n.w0 = slotPayload P.w0 := rfl
  simp only [runDecodeNorm, interpret, hw0, h]

/-- The dispatch runs on the loaded words, word 0 as the re-check leaves it (R171 to R173). -/
theorem runDecodeNorm_ok {n0 : NormWord} (h : recheckPreamble p (slotPayload P.w0) = .ok n0) :
    runDecodeNorm p v P s = dispatch p (loadedSubframe v { P.map slotPayload with w0 := n0 } s) := by
  have hw0 : (loadNorm v P s).n.w0 = slotPayload P.w0 := rfl
  simp only [runDecodeNorm, interpret, hw0, h]
  rfl

end

/-! ## The header of a result -/

theorem respond_answers (r : Response) (s : State) : Answers s (respond r s) r := rfl

/-- A rejection does not answer with a result (R90, R309). -/
theorem raise_not_decoded {p : Params} {x : Rejection} {s : State} {d : DecodedSubframe} :
    ¬ Answers s (raise p x s) (.decoded d) := by
  intro h
  have hx : rejectionResponse x = .decoded d := (raise_spec p x s).1.1.unique h
  cases x <;> cases hx

/-- A dispatch that answers with a result gives it the header registers and the variant of their sfid (R171, R175). -/
theorem dispatch_decoded {p : Params} {s : State} {d : DecodedSubframe} (h : Answers s (dispatch p s) (.decoded d)) :
    d.header = resultHeader s.hdr ∧ d.variant.tag = s.hdr.sfid := by
  rcases dispatch_cases p s with
    ⟨hf, e⟩ | ⟨hf, e⟩ | ⟨hf, e⟩ | ⟨hf, _, e⟩ | ⟨hf, _, e⟩ | ⟨hf, _, e⟩ | ⟨hf, _, e⟩ | ⟨_, e⟩ <;> rw [e] at h
  case inr.inr.inr.inr.inr.inr.inr => exact absurd h raise_not_decoded
  all_goals
    cases (accept_spec _ _ _ _).1.1.unique h
    exact ⟨rfl, hf.symm⟩

/-- The header of a result is labelled `v`, its two flags are equal, and its sfid is the variant's tag (R91, R175). -/
def HeaderFor (v : Byte) (d : DecodedSubframe) : Prop :=
  d.header.svid = v ∧ d.header.alert = d.header.antispoof ∧ d.header.sfid = d.variant.tag

/-- The header registers of a loaded subframe hold one bit as both flags (R84, R173). -/
theorem dispatch_loaded_header {p : Params} {v : Byte} {n : Ten NormWord} {s : State} {d : DecodedSubframe}
    (h : Answers s (dispatch p (loadedSubframe v n s)) (.decoded d)) : HeaderFor v d := by
  obtain ⟨hh, ht⟩ := dispatch_decoded (s := loadedSubframe v n s) h
  unfold HeaderFor
  rw [ht, hh]
  exact ⟨rfl, rfl, rfl⟩

theorem runDecodeRaw_header {p : Params} {v : Byte} {P : Ten RawWord} {s : State} {d : DecodedSubframe}
    (h : Answers s (runDecodeRaw p v P s) (.decoded d)) : HeaderFor v d := by
  cases hn : normalizeWords p P with
  | error x =>
    rw [runDecodeRaw_error v s hn] at h
    exact absurd h (raise_not_decoded (s := loadRaw v P s))
  | ok cn =>
    rw [runDecodeRaw_ok v s hn] at h
    exact dispatch_loaded_header h

theorem runDecodeNorm_header {p : Params} {v : Byte} {P : Ten RawWord} {s : State} {d : DecodedSubframe}
    (h : Answers s (runDecodeNorm p v P s) (.decoded d)) : HeaderFor v d := by
  cases hn : recheckPreamble p (slotPayload P.w0) with
  | error x =>
    rw [runDecodeNorm_error v s hn] at h
    exact absurd h (raise_not_decoded (s := loadNorm v P s))
  | ok n0 =>
    rw [runDecodeNorm_ok v s hn] at h
    exact dispatch_loaded_header h

/-! ## The claims -/

/-- Settles O19: the re-check passes, and the key's row is the arm that the dispatch of the loaded subframe reaches. -/
theorem decodeNormDispatches : Obligations.DecodeNormDispatches := by
  intro v P s pre d n hpre
  have hslot : slice (slotPayload P.w0) 16 8 = pre := slotPayload_preamble P.w0
  have hcheck := recheckPreamble_of_preamble (p := Config.build) (hslot.symm ▸ hpre)
  rw [hslot] at hcheck
  exact ⟨_, congrArg Host.Outcome.next (runDecodeNorm_ok v s hcheck), exec_dispatchRow (decodeKey_row _ _) rfl rfl⟩

/-- Settles O20: the re-check comes before the header is parsed, so the subframe ID is not read. -/
theorem badPreambleRejects : Obligations.BadPreambleRejects := by
  intro v P s h h'
  have hslot : slice (slotPayload P.w0) 16 8 = P.w0.extractLsb' 16 8 := slotPayload_preamble P.w0
  rw [← hslot] at h h' ⊢
  have hcheck := recheckPreamble_bad (p := Config.build) h h'
  exact ⟨_, congrArg Host.Outcome.next (runDecodeNorm_error v s hcheck), raise_spec _ _ (loadNorm v P s)⟩

/-- Settles O30: each row rejects its own sfid. -/
theorem unknownSubframeIdsAreRejected : Obligations.UnknownSubframeIdsAreRejected := fun page s =>
  ⟨⟨_, rfl, raise_spec Config.build (.unknownSubframeID 0) s⟩,
    ⟨_, rfl, raise_spec Config.build (.unknownSubframeID 6) s⟩,
    ⟨_, rfl, raise_spec Config.build (.unknownSubframeID 7) s⟩,
    (DispatchRow.rejectSfid0 page).decode_eq, (DispatchRow.rejectSfid6 page).decode_eq,
    (DispatchRow.rejectSfid7 page).decode_eq⟩

/-- Settles O38: the words load as they are and have the sentinel, so both decodes dispatch the same loaded subframe. -/
theorem rawAndDirectInvocationAgree : Obligations.RawAndDirectInvocationAgree := by
  intro p v P c n s h
  have hword0 : slotPayload (n.map fun d => 0#8 ++ d).w0 = n.w0 := slotPayload_append 0 n.w0
  have hpre := normalizeWords_sentinel h
  have hcheck : recheckPreamble p (slotPayload (n.map fun d => 0#8 ++ d).w0) = .ok n.w0 := by
    rw [hword0, recheckPreamble_of_preamble (.inl hpre), if_pos hpre]
  rw [runDecodeRaw_ok v s h, runDecodeNorm_ok v s hcheck, map_slotPayload_append]

/-- Settles O45: both writes of the context go with a result, whose status is 0. -/
theorem rejectionsWriteNoContext : Obligations.RejectionsWriteNoContext := by
  intro i s t r h ha hr
  obtain ⟨r', ha', hc, hp, -⟩ := exec_effect h
  cases ha.unique ha'
  refine ⟨?_, hp⟩
  rcases hc with hc | ⟨_, _, rfl, _, _⟩ | ⟨_, _, _, _, _, _, _, rfl, _, _, _⟩
  · exact hc
  · exact absurd rfl hr
  · exact absurd rfl hr

/-- Settles O47: of the commands only the two decodes answer with a result. -/
theorem resultHeaderIsTheSubframes : Obligations.ResultHeaderIsTheSubframes := by
  intro r s t d h ha
  obtain ⟨v, rsv, op, P, rfl⟩ := r.eq_of_fields
  change HeaderFor (slice (commandHeader v rsv op) 8 8) d
  rw [commandHeader_svid]
  have hrow := decodeCommand_row v rsv op P
  generalize decodeCommand ⟨commandHeader v rsv op, P⟩ = i at hrow h
  cases hrow <;> cases h
  case decodeRaw => exact runDecodeRaw_header ha
  case decodeNorm => exact runDecodeNorm_header ha
  all_goals cases (respond_answers _ s).unique ha

end Sys2Proof.Machine

/-! PROOFS of O23, O24, O25 (42_subframes_1_3.md): subframes 1 to 3. Each arm accepts the loaded words with their variant;
CLOCK alone writes the context first. The statements write out the field maps `clockOf`, `ephemeris1Of` and
`ephemeris2Of`. -/

namespace Sys2Proof.Machine

/-- A write of the context before an accepted decode is all that the decode changes of it (R34). -/
theorem accept_setContext_spec (p : Params) (c : Option Condition) (v : Variant) (x : Context) (s : State) :
    EndsDecode s (accept p c v (setContext x s)) c (.decoded ⟨resultHeader s.hdr, v⟩) ∧
      (accept p c v (setContext x s)).ctx = x :=
  accept_spec p c v (setContext x s)

/-- CLOCK answers with the Clock fields and writes the week, with no condition on it (R200, R201). -/
theorem runClock_spec (p : Params) (s : State) :
    EndsDecode s (runClock p s) none (.decoded ⟨resultHeader s.hdr, .clock (clockOf s.n)⟩) ∧
      (runClock p s).ctx = writeWeek (weekOf s.n) s.ctx :=
  accept_setContext_spec p none _ _ s

/-- EPHEMERIS1 answers with its fields and writes no context field (R202). -/
theorem runEphemeris1_spec (p : Params) (s : State) :
    EndsDecode s (runEphemeris1 p s) none (.decoded ⟨resultHeader s.hdr, .ephemerisPart1 (ephemeris1Of s.n)⟩) ∧
      (runEphemeris1 p s).ctx = s.ctx :=
  accept_spec p none _ s

/-- EPHEMERIS2 answers with its fields and writes no context field (R203). -/
theorem runEphemeris2_spec (p : Params) (s : State) :
    EndsDecode s (runEphemeris2 p s) none (.decoded ⟨resultHeader s.hdr, .ephemerisPart2 (ephemeris2Of s.n)⟩) ∧
      (runEphemeris2 p s).ctx = s.ctx :=
  accept_spec p none _ s

/-! ## The claims -/

/-- Settles O23: the row's arm is CLOCK, whatever the page. -/
theorem clockDecodesAndWritesTheWeek : Obligations.ClockDecodesAndWritesTheWeek := fun page s =>
  ⟨(DispatchRow.sf1Clock page).decode_eq, _, rfl, runClock_spec Config.build s⟩

/-- Settles O24: the row's arm is EPHEMERIS1, whatever the page. -/
theorem ephemeris1Decodes : Obligations.Ephemeris1Decodes := fun page s =>
  ⟨(DispatchRow.sf2Ephemeris1 page).decode_eq, _, rfl, runEphemeris1_spec Config.build s⟩

/-- Settles O25: the row's arm is EPHEMERIS2, whatever the page. -/
theorem ephemeris2Decodes : Obligations.Ephemeris2Decodes := fun page s =>
  ⟨(DispatchRow.sf3Ephemeris2 page).decode_eq, _, rfl, runEphemeris2_spec Config.build s⟩

end Sys2Proof.Machine

/-! PROOFS of O26, O27 (43_subframe_4.md): subframe 4. The leap-second page ends with what LEAP_SANITY leaves, on its
clamped or its accepted branch (`leapSanity_cases`); every other page is accepted with no context write. -/

namespace Sys2Proof.Machine

/-- PENDING_CHECK reports exactly where the broadcast leap differs from `lsf` (R243). -/
theorem pendingCheck_eq_ite (v : Byte) (f : LeapFields) :
    pendingCheck v f = if f.leap = f.lsf then none else some (.leapPending v f.leap f.lsf f.wnlsf f.dn) :=
  ite_not ..

/-- LEAP56 ends with whatever LEAP_SANITY leaves: its report, its `clamped` and its context (R241, R242). -/
theorem runLeap56_of_leapSanity {p : Params} {s : State} {o : LeapOutcome}
    (h : leapSanity p s.hdr.svid (leapFieldsOf s.n) s.ctx = o) :
    EndsDecode s (runLeap56 p s) o.report
        (.decoded ⟨resultHeader s.hdr, .pageFrame 56 s.hdr.dataId
          (.leapSecond (leapFieldsOf s.n).leap (leapFieldsOf s.n).lsf (leapFieldsOf s.n).wnlsf (leapFieldsOf s.n).dn
            o.clamped)⟩) ∧
      (runLeap56 p s).ctx = o.ctx :=
  h ▸ accept_setContext_spec p _ _ _ s

/-- PAGE4_NOP answers with the not-yet-decoded variant and writes no context field (R245, R246). -/
theorem runPage4Nop_spec (p : Params) (page : BitVec 6) (s : State) :
    EndsDecode s (runPage4Nop p page s) (some (.pageNotDecoded s.hdr.svid 4 page))
        (.decoded ⟨resultHeader s.hdr, .pageFrame page s.hdr.dataId .notYetDecoded⟩) ∧
      (runPage4Nop p page s).ctx = s.ctx :=
  accept_spec p _ _ s

/-! ## The claims -/

/-- Settles O26: LEAP_SANITY's two branches are the statement's two. -/
theorem leapPageAppliesTheSanityRule : Obligations.LeapPageAppliesTheSanityRule := by
  refine fun s => ⟨DispatchRow.sf4Page56Leap.decode_eq, _, rfl, ?_⟩
  rcases leapSanity_cases Config.build s.hdr.svid (leapFieldsOf s.n) s.ctx with ⟨hlt, ho⟩ | ⟨hle, ho⟩
  · exact (if_pos (BitVec.lt_def.mp hlt)).mpr (runLeap56_of_leapSanity ho)
  · rw [pendingCheck_eq_ite] at ho
    exact (if_neg (Nat.not_lt.mpr (BitVec.le_def.mp hle))).mpr (runLeap56_of_leapSanity ho)

/-- Settles O27: PAGE4_NOP answers for any page, and its row's condition is that the page is not 56. -/
theorem otherSubframe4PagesAreNoOps : Obligations.OtherSubframe4PagesAreNoOps :=
  ⟨fun page s => ⟨_, rfl, runPage4Nop_spec Config.build page s⟩,
    fun page h => (DispatchRow.sf4PageNop page h).decode_eq⟩

end Sys2Proof.Machine

/-! PROOFS of O28, O29 (44_subframe_5.md): subframe 5. Both arms are accepted with no context write; the page's bounds
are the conditions of their two rows. -/

namespace Sys2Proof.Machine

/-- ALMANAC answers with the per-SV fields and writes no context field (R271). -/
theorem runAlmanac_spec (p : Params) (page : BitVec 6) (s : State) :
    EndsDecode s (runAlmanac p page s) none
        (.decoded ⟨resultHeader s.hdr, .almanac page s.hdr.dataId (.perSV (almanacOf s.n))⟩) ∧
      (runAlmanac p page s).ctx = s.ctx :=
  accept_spec p none _ s

/-- PAGE5_NOP answers with the not-decoded variant and writes no context field (R272). -/
theorem runPage5Nop_spec (p : Params) (page : BitVec 6) (s : State) :
    EndsDecode s (runPage5Nop p page s) (some (.pageNotDecoded s.hdr.svid 5 page))
        (.decoded ⟨resultHeader s.hdr, .almanac page s.hdr.dataId .notDecoded⟩) ∧
      (runPage5Nop p page s).ctx = s.ctx :=
  accept_spec p _ _ s

/-! ## The claims -/

/-- Settles O28: ALMANAC answers for any page, and its row's condition is the two bounds of the page. -/
theorem almanacPagesDecode : Obligations.AlmanacPagesDecode :=
  ⟨fun page s => ⟨_, rfl, runAlmanac_spec Config.build page s⟩,
    fun page h1 h24 => (DispatchRow.sf5Almanac page ⟨BitVec.le_def.mpr h1, BitVec.le_def.mpr h24⟩).decode_eq⟩

/-- Settles O29: PAGE5_NOP answers for any page, and a page 0 or from 25 up is one outside the almanac's bounds. -/
theorem otherSubframe5PagesAreNoOps : Obligations.OtherSubframe5PagesAreNoOps := by
  refine ⟨fun page s => ⟨_, rfl, runPage5Nop_spec Config.build page s⟩, fun page h => ?_⟩
  have outside : page = 0 ∨ 25 ≤ page := h.imp BitVec.eq_of_toNat_eq BitVec.le_def.mpr
  exact (DispatchRow.sf5PageNop page ((not_almanac_page_iff page).mpr outside)).decode_eq

end Sys2Proof.Machine

/-! PROOFS of O21, O22 (45_context_access.md): the commands that write no context. READ_CTX responds with the snapshot of
the context, and a request whose row is reserved with the refusal of its header's fields. -/

namespace Sys2Proof.Machine

/-- READ_CTX responds with the snapshot of the context (R290). -/
theorem exec_readCtx (svid : Byte) (s : State) :
    exec (.readCtx svid) s = .next (respond (.snapshot (snapshotOf s.ctx)) s) := rfl

/-- The snapshot right after reset has no week (R40, R290). -/
theorem snapshotOf_reset : snapshotOf State.reset.ctx = ⟨false, none, Config.baseline, false⟩ := rfl

/-- Command code 3 or a nonzero reserved field leaves the two reserved rows, and each refuses the header's fields
(R291). -/
theorem exec_reserved_row {svid : Byte} {rsv : BitVec 6} {op : BitVec 2} {P : Ten RawWord} {i : Instr}
    (h : CommandRow svid rsv op P i) (reserved : op = 3 ∨ rsv ≠ 0) (s : State) :
    exec i s = .next (respond (.refusedCommand op rsv) s) := by
  cases h with
  | decodeRaw | decodeNorm | readCtx => exact absurd reserved (by decide)
  | reservedOp3 | reservedRsv => rfl

/-! ## The claims -/

/-- Settles O21: the statement writes out the snapshot, and after reset it is the snapshot of the reset context. -/
theorem readCtxAnswersTheSnapshot : Obligations.ReadCtxAnswersTheSnapshot :=
  ⟨exec_readCtx, fun svid => ⟨_, exec_readCtx svid State.reset,
    congrArg (fun c => [Response.snapshot c]) snapshotOf_reset⟩⟩

/-- Settles O22: a request is the row of its header's fields, and the reserved rows refuse whatever their operands. -/
theorem reservedHeadersAreRefused : Obligations.ReservedHeadersAreRefused := by
  refine ⟨fun r s reserved => ?_, fun _ _ _ => rfl, fun _ _ _ _ => rfl⟩
  have row := decodeCommand_row (slice r.cmd 8 8) (slice r.cmd 2 6) (slice r.cmd 0 2) r.payload
  rw [commandHeader_slices] at row
  exact exec_reserved_row row reserved s

end Sys2Proof.Machine

/-! PROOFS of O14, O46, O13, O48 (60_exceptions.md): the rejections. The table of R301 to R305 is one relation from an
instruction to the responses it can give, `CanAnswer`, and every execution stays within it (`exec_canAnswer`). -/

namespace Sys2Proof.Machine

/-! ## Which instruction can answer what -/

/-- The responses of each instruction: its rejections with their raisers (R301 to R305), and the OK responses, which have
no raiser and are left free. -/
inductive CanAnswer : Instr → Response → Prop where
  | decoded (i : Instr) (d : DecodedSubframe) : CanAnswer i (.decoded d)
  | snapshot (i : Instr) (c : Snapshot) : CanAnswer i (.snapshot c)
  | preambleMismatch (v : Byte) (P : Ten RawWord) (pre : Byte) : CanAnswer (.decodeRaw v P) (.preambleMismatch pre)
  | parityFailure (v : Byte) (P : Ten RawWord) (k : BitVec 4) (e a : BitVec 6) :
      CanAnswer (.decodeRaw v P) (.parityFailure k e a)
  | badPreamble (v : Byte) (P : Ten RawWord) (pre : Byte) : CanAnswer (.decodeNorm v P) (.badPreamble pre)
  | unknownInRaw (v : Byte) (P : Ten RawWord) (f : BitVec 3) : CanAnswer (.decodeRaw v P) (.unknownSubframeID f)
  | unknownInNorm (v : Byte) (P : Ten RawWord) (f : BitVec 3) : CanAnswer (.decodeNorm v P) (.unknownSubframeID f)
  | rejectSfid0 (page : BitVec 6) : CanAnswer (.rejectSfid0 page) (.unknownSubframeID 0)
  | rejectSfid6 (page : BitVec 6) : CanAnswer (.rejectSfid6 page) (.unknownSubframeID 6)
  | rejectSfid7 (page : BitVec 6) : CanAnswer (.rejectSfid7 page) (.unknownSubframeID 7)
  | reservedOp3 (v : Byte) (rsv : BitVec 6) : CanAnswer (.reservedOp3 v rsv) (.refusedCommand 3 rsv)
  | reservedRsv (v : Byte) (rsv : BitVec 6) (op : BitVec 2) :
      CanAnswer (.reservedRsv v rsv op) (.refusedCommand op rsv)

/-- The preamble re-check raises BadPreamble only (R172, R303). -/
theorem recheckPreamble_error {p : Params} {n0 : NormWord} {x : Rejection} (h : recheckPreamble p n0 = .error x) :
    ∃ pre, x = .badPreamble pre := by
  rcases recheckPreamble_cases p n0 with ⟨_, e⟩ | ⟨_, e⟩ | ⟨_, e⟩ <;> cases e.symm.trans h
  exact ⟨_, rfl⟩

/-- DECODE_RAW raises what the Normalizer raises, and after it what the dispatch raises (R148, R174). -/
theorem runDecodeRaw_canAnswer (p : Params) (v : Byte) (P : Ten RawWord) (s : State) :
    ∃ r, Answers s (runDecodeRaw p v P s) r ∧ CanAnswer (.decodeRaw v P) r := by
  cases h : normalizeWords p P with
  | error x =>
    rw [runDecodeRaw_error v s h]
    obtain ⟨pre, rfl⟩ | ⟨k, e, a, rfl⟩ := normalizeWords_error h
    · exact ⟨_, rfl, .preambleMismatch v P pre⟩
    · exact ⟨_, rfl, .parityFailure v P k e a⟩
  | ok cn =>
    rw [runDecodeRaw_ok v s h]
    obtain ⟨d, ha⟩ | ⟨f, ha⟩ := dispatch_answers p (loadedSubframe v cn.2 s)
    · exact ⟨_, ha, .decoded _ d⟩
    · exact ⟨_, ha, .unknownInRaw v P f⟩

/-- DECODE_NORM raises what the preamble re-check raises, and after it what the dispatch raises (R172, R174). -/
theorem runDecodeNorm_canAnswer (p : Params) (v : Byte) (P : Ten RawWord) (s : State) :
    ∃ r, Answers s (runDecodeNorm p v P s) r ∧ CanAnswer (.decodeNorm v P) r := by
  cases h : recheckPreamble p (slotPayload P.w0) with
  | error x =>
    rw [runDecodeNorm_error v s h]
    obtain ⟨pre, rfl⟩ := recheckPreamble_error h
    exact ⟨_, rfl, .badPreamble v P pre⟩
  | ok n0 =>
    rw [runDecodeNorm_ok v s h]
    obtain ⟨d, ha⟩ | ⟨f, ha⟩ :=
      dispatch_answers p (loadedSubframe v { P.map slotPayload with w0 := n0 } s)
    · exact ⟨_, ha, .decoded _ d⟩
    · exact ⟨_, ha, .unknownInNorm v P f⟩

/-- Every instruction answers within the table. -/
theorem exec_canAnswer {i : Instr} {s t : State} (h : exec i s = .next t) : ∃ r, Answers s t r ∧ CanAnswer i r := by
  cases i <;> cases h
  case decodeRaw v P => exact runDecodeRaw_canAnswer _ v P s
  case decodeNorm v P => exact runDecodeNorm_canAnswer _ v P s
  case readCtx => exact ⟨_, rfl, .snapshot _ _⟩
  case reservedOp3 v rsv => exact ⟨_, rfl, .reservedOp3 v rsv⟩
  case reservedRsv v rsv op => exact ⟨_, rfl, .reservedRsv v rsv op⟩
  case rejectSfid0 page => exact ⟨_, rfl, .rejectSfid0 page⟩
  case rejectSfid6 page => exact ⟨_, rfl, .rejectSfid6 page⟩
  case rejectSfid7 page => exact ⟨_, rfl, .rejectSfid7 page⟩
  all_goals exact ⟨_, rfl, .decoded _ _⟩

/-! ## Status codes and levels -/

/-- The status codes are 0 to 5 (R300). -/
theorem Response.status_le_five (r : Response) : r.status ≤ 5 := by
  unfold Response.status
  split <;> decide

/-- An extra report has one of the two low levels (R314). -/
theorem lowLevelOf_cases (l : LowLevel) : lowLevelOf l = .prog ∨ lowLevelOf l = .io := by
  cases l with
  | io => exact .inr rfl
  | prog => exact .inl rfl

/-! ## The claims -/

/-- Settles O14: the one response is the one of the instruction's effect. -/
theorem everyCommandGetsOneResponse : Obligations.EveryCommandGetsOneResponse := by
  intro i s
  obtain ⟨t, ht⟩ := exec_next i s
  obtain ⟨r, ha, -, -, -⟩ := exec_effect ht
  exact ⟨t, r, ht, ha, r.status_le_five⟩

/-- Settles O46: the answer is the only one, so it is one of the table, where each rejection has the raisers claimed. -/
theorem eachRejectionHasItsRaiser : Obligations.EachRejectionHasItsRaiser := by
  intro i s t h
  have table : ∀ {r}, Answers s t r → CanAnswer i r := by
    intro r ha
    obtain ⟨r', ha', hr'⟩ := exec_canAnswer h
    exact ha'.unique ha ▸ hr'
  refine ⟨fun pre ha => ?_, fun k e a ha => ?_, fun pre ha => ?_, fun op rsv ha => ?_, fun sfid ha => ?_⟩
  · cases table ha with
    | preambleMismatch v P => exact ⟨v, P, rfl⟩
  · cases table ha with
    | parityFailure v P => exact ⟨v, P, rfl⟩
  · cases table ha with
    | badPreamble v P => exact ⟨v, P, rfl⟩
  · cases table ha with
    | reservedOp3 v => exact .inl ⟨v, rsv, rfl⟩
    | reservedRsv v => exact .inr ⟨v, rsv, op, rfl⟩
  · cases table ha with
    | unknownInRaw v P => exact .inl ⟨v, P, .inl rfl⟩
    | unknownInNorm v P => exact .inl ⟨v, P, .inr rfl⟩
    | rejectSfid0 page => exact .inr ⟨page, .inl rfl⟩
    | rejectSfid6 page => exact .inr ⟨page, .inr (.inl rfl)⟩
    | rejectSfid7 page => exact .inr ⟨page, .inr (.inr rfl)⟩

/-- Settles O13: a step runs a dispatch row, waits, or serves the entry it takes. -/
theorem stepNeverStops : Obligations.StepNeverStops := by
  intro s
  cases hser : s.serializer with
  | running =>
    obtain ⟨t, ht⟩ := exec_next (decodeKey (dispatchKey s)) s
    exact ⟨t, by simp only [step, hser, ht]⟩
  | idle =>
    cases htake : takeNext Config.build s with
    | none => exact ⟨s, by simp only [step, hser, htake]⟩
    | some taken => exact ⟨_, step_of_takeNext hser htake⟩

/-- Settles O48: the required reports have the levels of `Condition.level`, any other the level of its low level. -/
theorem reportLevels : Obligations.ReportLevels := fun _ _ _ _ _ _ _ _ _ _ r =>
  ⟨rfl, rfl, rfl, rfl, rfl, rfl, rfl, lowLevelOf_cases r.level⟩

end Sys2Proof.Machine

/-! PROOFS of O55, O10, O12 (70_reset_and_hazards.md R340, R351; 20_memory.md R65): what serving an entry adds to the
responses, so what a draining run adds (`run_drains` gives the order of its entries); and the two steps that run no
command, a reset and a wait. -/

namespace Sys2Proof.Machine

/-- A command served is answered once, a reset is not answered (R90, R340). -/
theorem serve_responses_length (s : State) (e : PortEvent) :
    (serve s e).responses.length = s.responses.length + if isCommand e then 1 else 0 := by
  cases e with
  | command r =>
    obtain ⟨t, ht⟩ := exec_next (decodeCommand r) s
    obtain ⟨x, ha, -, -, -⟩ := exec_effect ht
    rw [serve_command ht, ha, List.length_append]
    rfl
  | reset => rfl

theorem foldl_serve_responses_length (es : List PortEvent) (s : State) :
    (es.foldl serve s).responses.length = s.responses.length + es.countP isCommand := by
  induction es generalizing s with
  | nil => rfl
  | cons e es ih =>
    rw [List.foldl_cons, ih, serve_responses_length, List.countP_cons]
    omega

theorem takeNext_of_pending_nil (p : Params) {s : State} (hp : s.pending = []) : takeNext p s = none := by
  simp only [takeNext, hp, List.getElem?_nil]

/-- Settles O55: the run serves the entries in some order, and the number of commands does not depend on the order. -/
theorem thePortIsDrained : Obligations.ThePortIsDrained := by
  intro s hi
  obtain ⟨order, hperm, o, hrun⟩ := run_drains _ hi rfl
  refine ⟨_, hrun, rfl, ?_⟩
  rw [setPort_responses, foldl_serve_responses_length, hperm.countP_eq]

/-- Settles O10: the step is the reset of the state without the entry taken. -/
theorem resetCreatesASession : Obligations.ResetCreatesASession := by
  intro s before after hi hp hchoice
  exact ⟨_, step_of_reset_taken hi (takeNext_of_split hp hchoice), rfl, rfl, rfl, rfl, rfl, rfl⟩

/-- Settles O12: there is no entry to take. -/
theorem blockWithNothingOutstandingWaits : Obligations.BlockWithNothingOutstandingWaits := by
  intro s hi hp
  simp only [step, hi, takeNext_of_pending_nil _ hp]

end Sys2Proof.Machine

/-! PROOFS of O9, O15 (30_encoding.md R84, R85, R99): the two formats of word a step runs. A dispatch key is read from
the header registers, and the key placed in the loaded words is the one read back (`dispatchKey_placeKey`). -/

namespace Sys2Proof.Machine

theorem step_of_running {s : State} (h : s.serializer = .running) : step s = exec (decodeKey (dispatchKey s)) s := by
  simp only [step, h]

/-- A field written into the bits a mask clears is read back from them. -/
theorem slice_masked_or_shifted {lo len : Nat} {m : NormWord} (hm : slice m lo len = 0#len) (hfit : lo + len ≤ 24)
    (x : NormWord) (f : BitVec len) : slice ((x &&& m) ||| (f.setWidth 24 <<< lo)) lo len = f := by
  have hfield : slice (f.setWidth 24 <<< lo) lo len = f := by
    apply BitVec.eq_of_getLsbD_eq
    intro i hi
    simp [hi, show lo + i < 24 by omega]
  calc slice ((x &&& m) ||| (f.setWidth 24 <<< lo)) lo len
      = (slice x lo len &&& slice m lo len) ||| slice (f.setWidth 24 <<< lo) lo len := by
        rw [slice, BitVec.extractLsb'_or, BitVec.extractLsb'_and]
    _ = f := by rw [hm, hfield, BitVec.and_zero, BitVec.zero_or]

/-- The key placed in a subframe's words is the key of its header (R84, R85, R99). -/
theorem dispatchKey_placeKey (k : BitVec 9) (s : State) : dispatchKey (placeKey k s) = k := by
  have hsfid : (placeKey k s).hdr.sfid = slice k 6 3 := slice_masked_or_shifted (by decide) (by decide) s.n.w1 _
  have hpage : (placeKey k s).hdr.pageId = slice k 0 6 := slice_masked_or_shifted (by decide) (by decide) s.n.w2 _
  rw [dispatchKey, hsfid, hpage, dispatchKeyOf_slices]

theorem step_placeKey (k : BitVec 9) (s : State) : step (placeKey k s) = exec (decodeKey k) (placeKey k s) := by
  rw [step_of_running rfl, dispatchKey_placeKey]

/-- The command placed is the one the serializer takes: nothing else is outstanding (R39). -/
theorem step_placeCommand (r : Request) (s : State) :
    step (placeCommand r s) = exec (decodeCommand r) (setPort [] (s.orderTick + 1) (placeCommand r s)) :=
  step_of_command_taken rfl (takeNext_of_split (before := []) rfl (Nat.mod_one _))

/-- Settles O9: the key of the header registers is their concatenation. -/
theorem stepRunsTheDispatchRow : Obligations.StepRunsTheDispatchRow := fun _ h => step_of_running h

/-- Settles O15: the word is a command or a dispatch key, and each is run from the place it is put in. -/
theorem placedWordRunsNext : Obligations.PlacedWordRunsNext := by
  intro s nbits w
  unfold decodeTableWord State.withFetchWord
  cases tableWord nbits w with
  | command r => exact ⟨_, _, rfl, step_placeCommand r s, rfl, rfl, rfl⟩
  | key k => exact ⟨_, _, rfl, step_placeKey k s, rfl, rfl, rfl⟩

end Sys2Proof.Machine
